-- ==== Sys2Proof/Word.lean ====
section
/-!
DEFINITION. The plain value types every other file uses: bytes, path and pipe numbers, directions, loops, ports, and the
two small containers `Three` (one value per path or pipe) and `Two` (one value per direction, or per loop).
-/
namespace Sys2Proof

/-- One byte. -/
abbrev Byte := BitVec 8

/-- The number of a path, or of a pipe: 1, 2 or 3 (R84, R164). -/
inductive Idx3 where
  | one | two | three
deriving DecidableEq, Repr, Inhabited

/-- The number as the records print it. -/
def Idx3.num : Idx3 → Nat
  | .one => 1
  | .two => 2
  | .three => 3

/-- All three numbers in ascending order. -/
def Idx3.all : List Idx3 := [.one, .two, .three]

/-- A direction of a path: upstream (received on XDnU) or downstream (received on XDnD) (R164). -/
inductive Dir where
  | up | dn
deriving DecidableEq, Repr, Inhabited

/-- Loop A or loop B (R336). -/
inductive LoopId where
  | a | b
deriving DecidableEq, Repr, Inhabited

/-- A link port: LU upstream or LD downstream (Table 2.2). -/
inductive Port where
  | lu | ld
deriving DecidableEq, Repr, Inhabited

/-- An image bank (Table 4.2). -/
inductive Bank where
  | a | b
deriving DecidableEq, Repr, Inhabited

/-- The other bank. -/
def Bank.other : Bank → Bank
  | .a => .b
  | .b => .a

/-- One value for each of paths (or pipes) 1 to 3. -/
structure Three (α : Type) where
  p1 : α
  p2 : α
  p3 : α
deriving DecidableEq, Repr, Inhabited

/-- The value of one number. -/
def Three.get {α : Type} (t : Three α) : Idx3 → α
  | .one => t.p1
  | .two => t.p2
  | .three => t.p3

/-- The value of one number replaced. -/
def Three.set {α : Type} (t : Three α) : Idx3 → α → Three α
  | .one, x => { t with p1 := x }
  | .two, x => { t with p2 := x }
  | .three, x => { t with p3 := x }

/-- The same value three times. -/
def Three.const {α : Type} (x : α) : Three α := ⟨x, x, x⟩

/-- A function on each value. -/
def Three.map {α β : Type} (f : α → β) (t : Three α) : Three β := ⟨f t.p1, f t.p2, f t.p3⟩

/-- A function on each value and its number. -/
def Three.imap {α β : Type} (f : Idx3 → α → β) (t : Three α) : Three β :=
  ⟨f .one t.p1, f .two t.p2, f .three t.p3⟩

/-- The three values in order. -/
def Three.toList {α : Type} (t : Three α) : List α := [t.p1, t.p2, t.p3]

/-- One value for each direction. -/
structure Two (α : Type) where
  up : α
  dn : α
deriving DecidableEq, Repr, Inhabited

/-- The value of one direction. -/
def Two.get {α : Type} (t : Two α) : Dir → α
  | .up => t.up
  | .dn => t.dn

/-- The value of one direction replaced. -/
def Two.set {α : Type} (t : Two α) : Dir → α → Two α
  | .up, x => { t with up := x }
  | .dn, x => { t with dn := x }

/-- The same value twice. -/
def Two.const {α : Type} (x : α) : Two α := ⟨x, x⟩

/-- A function on each value. -/
def Two.map {α β : Type} (f : α → β) (t : Two α) : Two β := ⟨f t.up, f t.dn⟩

end Sys2Proof
end

