-- ==== Sys2Proof/Config.lean ====
section
/-!
DEFINITION. The values that the manual leaves open, as opaque constants: nothing in Lean evaluates them, so a statement that
holds of the model holds whatever they are. Each has a row of the assumption log.
-/
namespace Sys2Proof.Config

/-- What an M-Bus head does not learn of a member from parts 0x00, 0x05, 0x07 and 0x08, although Table 16.20 and R490 use it: the
snapshot's age, the fault latch, the pipe that loop A names, and whether its supply sensor is the second. -/
structure MemberUnknown where
  age : Nat
  fault : Bool
  pipe : Idx3
  supplyIsSecond : Bool
deriving DecidableEq, Repr, Inhabited

/-- Those of the member selected. Argument: the free counter. Log entry 12. -/
opaque memberUnknown : Nat → MemberUnknown

/-- Whether a RESET_N pulse of 1 to 10 µs takes effect: "may or may not" (R57). Log entry 4. -/
opaque resetPulseTakes : Nat → Bool

/-- The reason code of a start step that reaches its time limit, where Table 5.5 names none for it. The arguments are the
step number and the free counter. Log entry 5. -/
opaque timeLimitReason : Nat → Nat → BitVec 8

/-- The Solwick vendor public key, X then Y (R11, R115): the manual does not print it. Log entry 6. -/
opaque vendorKey : List Byte

/-- Whether a firmware image's sections fit the vendor's unpublished catalogue, check 9 (R510). Log entry 6. -/
opaque vendorCatalogueOk : List Byte → Bool

/-- Whether a firmware image's fields lie in the vendor's ranges, check 10 (R510). Log entry 6. -/
opaque vendorRangesOk : List Byte → Bool

/-- Which cell of a fitted part an offset beyond that part selects (R537). Arguments: the part's size, the offset. Log entry 7. -/
opaque beyondPart : Nat → Nat → Nat

/-- The linearised reading of a slot whose calibration record holds equal codes, so that R214 divides by zero. Arguments:
the conversion code and the free counter. Log entry 8. -/
opaque uncalibratedReading : Nat → Nat → Int

/-- alias_resid_ppm where v_true is 0, so that R309 divides by zero. Log entry 9. -/
opaque aliasOfZeroMean : Nat → Nat

/-- The fractional bin of R305 where all three magnitudes are 0, so that the quotient is 0/0. Log entry 9. -/
opaque binOfZeroSpectrum : Nat → Int

/-- Pad samples and counts are inputs; this is the ring period figure (ta_ps or tb_ps, in 0.1 ps) of a ring calibration
whose edge count is 0, so that R231 divides by zero. Log entry 8. -/
opaque ringOfZeroCount : Nat → Nat

/-- The ratio by which R76 takes a read as a resistance, for TSREF against a count_int of 0. Argument: TSREF's count. Log entry 8. -/
opaque tsrefOfZeroCount : Nat → Nat

/-- The die temperature in 0.01 °C that die_temp_offset and die_temp_slope of fuse word 11 make of the converter's reading: R497 names
the correction and gives no formula. Arguments: offset, slope, reading. Log entry 81. -/
opaque dieTemperature : BitVec 16 → BitVec 16 → Int → Int

/-- Whether the last edge of an RTC second is also the commit edge of the request in flight: an edge comes 2 to 3 LF periods after its
request (R375). Argument: the free counter. Log entry 82. -/
opaque sharesEdge : Nat → Bool

/-- The edges of XIN in one LF period while the reference is enabled. Argument: the free counter. Log entry 83. -/
opaque xinEdges : Nat → Nat

/-- Whether one of them ends a run of good cycles (R18). Argument: the free counter. Log entry 83. -/
opaque xinBreaks : Nat → Bool

end Sys2Proof.Config
end

