-- ==== Sys2Proof/Syntax.lean ====
section
/-!
DEFINITION. The commands of the block: one constructor of `Instr` per row of spec/opcode_table.json, with the operands that
reach the device with the event, and the operand types. The table gives no operand bits; the operands are what the rule of
each row names (log entry 10).
-/
namespace Sys2Proof

/-- The length class of a RESET_N low pulse (R57). -/
inductive PulseWidth where
  | below1us | from1to10us | atLeast10us
deriving DecidableEq, Repr, Inhabited

/-- The supplies that RESET_N depends on: VIO is there, and VBAT in mV (R57). -/
structure PinSupply where
  vio    : Bool
  vbatMv : Nat
deriving DecidableEq, Repr, Inhabited

/-- What the L-die's matcher sees of a frame's header: its destination and its type (R486). -/
structure HeardFrame where
  dest : BitVec 10
  type : BitVec 6
deriving DecidableEq, Repr, Inhabited

/-- A broadcast STATE (R486). -/
def HeardFrame.broadcastState : HeardFrame := ⟨1023, 0x14⟩

/-- What the regulator's polls of one S04 attempt end in (R412, Table 5.5). -/
inductive PrqAnswer where
  | acknowledged | refused | silent
deriving DecidableEq, Repr, Inhabited

/-- What the presence check of S05 or of a wake has counted so far (R18): consecutive good reference cycles, and the reference
cycles over 64 cycles of the 32.768 kHz clock; none while that count is not complete. -/
structure RefCheck where
  good  : Nat
  count : Option Nat
deriving DecidableEq, Repr, Inhabited

/-- R18: 4096 good cycles and a count of 46 875 ± 47, whichever of the two finishes last. -/
def RefCheck.declares (c : RefCheck) : Bool :=
  decide (4096 ≤ c.good) && (match c.count with
    | some n => decide (46828 ≤ n) && decide (n ≤ 46922)
    | none => false)

/-- A completed frequency check out of its window (reason 0x41; every other check that declares nothing has reason 0x40). -/
def RefCheck.offFrequency (c : RefCheck) : Bool :=
  match c.count with
  | some n => decide (n < 46828) || decide (46922 < n)
  | none => false

/-- One vernier measurement (R230): the periods of ring A and of ring B counted at coincidence. -/
structure VernierCount where
  k : Nat
  n : Nat
deriving DecidableEq, Repr, Inhabited

/-- A stimulus of the calibration edge generator: the vernier's measurement of its delay from E0, and the slot's code (R217). -/
structure Stimulus where
  delay : VernierCount
  code  : Nat
deriving DecidableEq, Repr, Inhabited

/-- The raw results of one slot's calibration (R216 to R218): the codes at one period and at two; for each of the 32 INL points
its stimuli; the cross-check's stimuli; the vernier's measurement of its own input offset; and whether the charges of the gain
calibration, and those of the stimuli, all ended within three reference periods (Table 7.6). -/
structure SlotRaw where
  codes1 : List Nat
  codes2 : List Nat
  inl    : List (List Stimulus)
  cross  : List Stimulus
  offset : VernierCount
  gainCharged : Bool
  inlCharged : Bool
deriving DecidableEq, Repr, Inhabited

/-- A ring calibration (R231): edge counts of both rings in 1024 core periods, and the core periods counted over 64 cycles of the
32.768 kHz clock, which measure the core period while the core runs on the internal RC. -/
structure RingRaw where
  countA : Nat
  countB : Nat
  rc     : Nat
deriving DecidableEq, Repr, Inhabited

/-- A vernier self-test (R232): a ring calibration and 16 measurements of 4 core clock periods. -/
structure SelfTest where
  rings     : RingRaw
  intervals : List VernierCount
deriving DecidableEq, Repr, Inhabited

/-- What one start reads from its surroundings: the fuse passes, the pad samples, the TSCAP counts, the regulator's and the
reference's answers, the self-test and calibration results, the line voltages, and a step that does not end by itself. -/
structure StartIn where
  /-- The bits that a disturbance turns over in what S00 reads of the three ledger words. -/
  ledgerFlips : List (BitVec 32)
  /-- The bits that a disturbance turns over in fuse words 0 to 24 as each of the three passes reads them (R137). -/
  fuseFlips1 : List (BitVec 32)
  fuseFlips2 : List (BitVec 32)
  fuseFlips3 : List (BitVec 32)
  /-- Eight samples of each pad at S02, true for VIO (R72). -/
  pulseA : List Bool
  pulseB : List Bool
  strapTest : List Bool
  /-- Counts of S03 (R75): internal reference, TSREF, and per CFG pad its three reads. -/
  countInt   : Nat
  countTsref : Nat
  cfg : List (Nat × Nat × Nat)
  /-- S04's two attempts. -/
  prq1 : PrqAnswer
  prq2 : PrqAnswer
  ref : RefCheck
  selfTest : SelfTest
  /-- S10: its ring calibration and the 24 slots' calibration. -/
  ring : RingRaw
  cal : List SlotRaw
  /-- S11: the Flint banks' CRCs are those of their contents. -/
  banksHeld : Bool
  /-- Line voltages in 0.01 V for R160. -/
  lu100 : Nat
  ldGnd100 : Nat
  /-- A step that does not end by itself, so that its time limit or a clock-ready time-out decides. -/
  hang : Option Nat
deriving DecidableEq, Repr, Inhabited

/-- The voting clients (Table 14.2). -/
inductive Client where
  | seq | tiu | fe | ee | ag | lnk | hmc
deriving DecidableEq, Repr, Inhabited

/-- The wake sources of Table 14.7 that the BKD can take in DEEP SLEEP. -/
inductive WakeSource where
  | wakePin | matcher | alarm | event
deriving DecidableEq, Repr, Inhabited

/-- What the backup domain takes on a wake from DEEP SLEEP: the source, and whether the Flint banks still hold what they held (R353,
R402). -/
structure DeepWake where
  source    : WakeSource
  banksHeld : Bool
deriving DecidableEq, Repr, Inhabited

/-- One of the pads XD1U to XD3D. -/
structure XdPad where
  path : Idx3
  side : Dir
deriving DecidableEq, Repr, Inhabited

/-- The instant of an edge on a test pad in grid units, and whether both pads have been low since the previous result (R235). -/
structure TstSeen where
  q        : Nat
  lowSince : Bool
deriving DecidableEq, Repr, Inhabited

/-- The L-die's measurements taken with a snapshot (R451), in 0.01 V and 0.1 mA, and whether a head's injector is in current
limit (Table 15.9). -/
structure PhyMeas where
  lu100  : BitVec 16
  ld100  : BitVec 16
  pass10 : BitVec 16
  limit  : Bool
deriving DecidableEq, Repr, Inhabited

/-- The five sensor readings of a management tick (Table 17.1): the die sensor's before its correction (R497), and mV. -/
structure Sensors where
  dieRaw : Int
  vbat   : Nat
  vbk    : Nat
  vio    : Nat
  vcore  : Nat
deriving DecidableEq, Repr, Inhabited

/-- What a gap job or pre-cycle job delivers: a self-test, the ring calibration and the slots' raw calibration, or none of the last (cut
short). -/
structure JobResult where
  selfTest : SelfTest
  ring     : RingRaw
  cal      : List SlotRaw
deriving DecidableEq, Repr, Inhabited

/-- Which count of changes closes its hour (R300, R540). -/
inductive HourOf where
  | pipe (p : Idx3)
  | pad (b : Bool)
deriving DecidableEq, Repr, Inhabited

/-- One frame as its bits arrive behind a good preamble and delimiter (Tables 16.1, 16.2): whether it came inverted (R435), the header's
addresses and sequence, the header check, the payload and the frame check. The command names the type; the length field is the
payload's length, since any other byte count is a framing failure (R456). -/
structure Frame where
  inverted : Bool
  dest    : BitVec 10
  src     : BitVec 10
  seq     : BitVec 6
  headerCheck : Byte
  payload : List Byte
  check   : BitVec 32
deriving DecidableEq, Repr, Inhabited

/-- A frame that may not be served (R456): its framing fails, or its checks, its length and its type decide. -/
inductive FrameFault where
  | framing
  | judged (type : BitVec 6)
deriving DecidableEq, Repr, Inhabited

/-- One unit of a train as its bits arrive (R466): its body with the CRC-16 at its end, and whether its framing is good (R435,
R436). -/
structure TrainUnit where
  body : List Byte
  framed : Bool
deriving DecidableEq, Repr, Inhabited

/-- The commands of the ZM3624 (spec/opcode_table.json, in its order). `vbat27` tells whether VBAT stands at 2.70 V or above (R388); a
command written without it is one of a device whose battery is good, and a hit written without its frame is one on a broadcast STATE. -/
inductive Instr where
  | backupPowerOn (recovers : Bool)
  | mainPowerOn
  | corePorRelease (d : StartIn)
  | vcoreBrownOut
  | resetNAsserted (w : PulseWidth) (supply : PinSupply)
  | resetNReleased (d : StartIn)
  | watchdogReset
  | clockReadyTimeout (resetId : Byte)
  | stepTimeLimit (c : RefCheck)
  | restartDelayExpiry (d : StartIn)
  | referenceDeclaredPresent
  | clockSwitchToReference
  | referenceDeclaredAbsent
  | referenceWakeLimit (c : RefCheck) (m : PhyMeas)
  | crystalGood
  | crystalStopped
  | cycleTick
  | voteRaised (c : Client) (run : Bool)
  | idleTimerExpiry
  | lossWindowEnd (eventHigh : Bool) (vbat27 : Bool := true)
  | wakeFromSleep
  | deepSleepWakeStrobe (w : DeepWake)
  | vcoreSettled
  | firmwareReloadComplete
  | prqPoll (status : Byte)
  | prqAnswerTimeout
  | wakeRetryTimer
  | launch (coarse : BitVec 24)
  | secondLaunch (coarse : BitVec 24)
  | driveFault (pad : XdPad)
  | stopWindowOpen (p : Idx3) (d : Dir) (above : Bool)
  | thresholdFiring (p : Idx3) (d : Dir) (q : Nat)
  | zeroCrossing (p : Idx3) (d : Dir) (q : Nat) (falling : Bool) (peak : Byte)
  | stopWindowClose (p : Idx3) (d : Dir) (peak : Byte)
  | conversionDone (slot : Fin 24) (code : BitVec 16) (coarseEnd : BitVec 24) (chargeOk : Bool)
  | conversionsComplete (lenUs : Nat) (m : PhyMeas)
  | repeatLaunch (coarse : BitVec 24)
  | holdExpiry (p : Idx3)
  | gapJobComplete (r : JobResult)
  | gainCalibrationDue
  | inlCalibrationDue
  | loanCutoff
  | temperatureSetDue
  | dischargeStop (startCoarse : BitVec 24) (code : BitVec 16) (coarseEnd : BitVec 24) (chargeOk : Bool)
  | dischargeTimeLimit
  | sweepDue
  | sweepLaunch (coarse : BitVec 24) (timer : BitVec 32)
  | agateAnalysisComplete
  | deferredTimeSetCommit
  | tstEdge (start stop : Bool) (seen : TstSeen)
  | testTimeout
  | vernierSelfTestTimer (t : SelfTest)
  | pulseHighEnd (padB : Bool)
  | pulseLowEnd (padB : Bool)
  | managementTick (r : Sensors)
  | scheduledSaveDue
  | memoryOperationComplete
  | memoryOperationTimeout
  | hourClose (h : HourOf)
  | powerFailWarning
  | powerFailCycleLimit
  | powerFailClear
  | batteryLow
  | rtcSecond (vbat27 : Bool := true)
  | deviceSecond (vbkLow : Bool) (vbkMv : BitVec 16)
  | freezeEdge
  | sessionLimit
  | bkdCommit
  | wakeInput (vbat27 : Bool := true)
  | eventEdge (rising : Bool)
  | matcherHit (f : HeardFrame := .broadcastState) (vbat27 : Bool := true)
  | parkedServiceTimeout
  | insertionRequest (lineOk : Bool)
  | insertionGapFound
  | removal
  | removalPassOpen
  | ldieSupplyLoss
  | tailFlagChange (tail : Bool)
  | downstreamShort (ld100 : BitVec 16)
  | isolationRetry (gone : Bool)
  | headLineFault
  | headLineRetry
  | lineRampComplete
  | repeaterDirectionTaken (lu ld : Bool)
  | repeaterIdleRelease
  | unservedFrame (why : FrameFault) (f : Frame)
  | ping (f : Frame)
  | identify (f : Frame)
  | read (f : Frame)
  | status (f : Frame)
  | clear (f : Frame)
  | sweep (f : Frame)
  | enumerate (f : Frame)
  | noticeWindow (f : Frame)
  | assign (f : Frame)
  | timeSet (f : Frame)
  | timeRead (f : Frame)
  | alarmSet (f : Frame)
  | state (f : Frame)
  | blockReset (f : Frame)
  | blockResetAssert
  | imageOpen (f : Frame)
  | imageEraseComplete
  | imageBlock (f : Frame)
  | imageCommit (f : Frame)
  | imageAbort (f : Frame)
  | imageSessionTimeout
  | logRead (f : Frame)
  | claim (f : Frame) (stuck : List Nat) (lockReads : BitVec 3)
  | responseCacheExpiry
  | turnUnitSend
  | appendUnit (hop : BitVec 10)
  | trainDisarmTimeout
  | trainEnd (units : List TrainUnit)
  | trainTimeout
  | headRelayUnit (u : TrainUnit) (last : Bool)
  | responseTimeout
  | responseReceived (nak : Bool) (f : Frame)
  | headSweepTimer
  | sndNke (address : Byte)
  | sndUd (address : Byte) (ci : Byte) (secondary : List Byte)
  | reqUd2 (address : Byte) (fcb : Bool)
  | mbusMemberReadComplete
  | pwronHigh
  | batteryLowRearm
  | vcoreStrobeTimeout
  | basaltReferenceLimit (c : RefCheck)
  | forwardedRequest (type : BitVec 6) (f : Frame)
deriving DecidableEq, Repr

end Sys2Proof
end

