-- ==== Sys2Proof/Decode.lean ====
section
/-!
DEFINITION. The host's word decoder. spec/opcode_table.json gives no row any operand or opcode bits (every row's field list is
empty), so no word of that table spells a command and the decoder answers none on every word (log entry 10).
-/
namespace Sys2Proof

/-- The command that a word of the opcode table spells: none, since the table gives no row any bits. -/
def decodeTableWord (_nbits _w : Nat) : Option Instr := none

end Sys2Proof
end

