-- ==== Sys2Proof/Machine/State.lean ====
section
/-!
DEFINITION. The state of the ZM3624 as plain data, unit by unit, and the state at reset. A field's comment gives its width or
range, the rule that names it, and, where the spec states one, its reset value. Where the spec states none the value below is
named in log entry 1.
-/
namespace Sys2Proof.Machine

/-! ## Kinds -/

/-- Table 3.3: the role. -/
inductive Role where
  | standAlone | member | head
deriving DecidableEq, Repr, Inhabited

/-- Table 3.6: the bank policy. -/
inductive Policy where
  | aFirst | newerFirst | aOnly | bFirst
deriving DecidableEq, Repr, Inhabited

/-- Table 5.4: the claim state. -/
inductive Claim where
  | unclaimed | incomplete | claimed
deriving DecidableEq, Repr, Inhabited

/-- Table 14.1: the power states, in code order. -/
inductive PState where
  | run | idle | sleep | deep | off
deriving DecidableEq, Repr, Inhabited

/-- Table 9.1: pair results. -/
inductive PairResult where
  | valid | afe | conversion | spread | sound | velocity | notFired
deriving DecidableEq, Repr, Inhabited

/-- Table 9.5: path states. -/
inductive PathState where
  | notUsed | valid | held | invalid | noSlots
deriving DecidableEq, Repr, Inhabited

/-- Table 9.8: pipe states. -/
inductive PipeState where
  | notUsed | valid | held | degraded | invalid
deriving DecidableEq, Repr, Inhabited

/-- Table 6.8: direction results. -/
inductive DirResult where
  | ok | noArrival | belowFloor | noFlip | noLead | irregular | foreign | early | truncated | drive
deriving DecidableEq, Repr, Inhabited

/-- Table 11.3: sensor results. -/
inductive SensorResult where
  | ok | opened | short | range | spread | reference | mismatch
deriving DecidableEq, Repr, Inhabited

/-- Table 11.4: sensor states. -/
inductive SensorState where
  | notUsed | none | ok | suspect | fault
deriving DecidableEq, Repr, Inhabited

/-- Table 10.1: results of a sweep for a pipe. -/
inductive SweepResult where
  | notUsed | none | found | few
deriving DecidableEq, Repr, Inhabited

/-- Table 7.4, Table 7.11: window states. -/
inductive WindowState where
  | acquisition | tracked
deriving DecidableEq, Repr, Inhabited

/-- The reasons for which the machine would stop with a fault. The spec gives every command an effect, so there is none. -/
inductive Fault : Type
deriving DecidableEq, Repr

/-- The reasons for which a command is refused by the model. -/
inductive Refusal where
  /-- Raised by an arm of exec whose command has no meaning yet; safe: no claim can be proved of it. -/
  | notModelled (mnemonic : String)
deriving DecidableEq, Repr

/-! ## Backup domain (chapter 13, Table 13.1) -/

/-- A calendar instant in BCD (Table 13.2 bytes 0x02 to 0x08, weekday apart). -/
structure Cal where
  sec : Byte
  min : Byte
  hour : Byte
  date : Byte
  month : Byte
  year : Byte
deriving DecidableEq, Repr, Inhabited

/-- The registers that a freeze copies (Table 13.2, 14 bytes). -/
structure TimeRegs where
  /-- 16 bits, 0 to 32 768; Table 13.2; reset 0. -/
  subsec : BitVec 16
  /-- 6 BCD bytes; Table 13.2; reset 2000-01-01 00:00:00. -/
  cal : Cal
  /-- 3 bits, 1 Monday to 7 Sunday, derived from the date (R369); reset 6. -/
  weekday : Byte
  /-- 1 bit; Table 13.5; reset 1. -/
  osf : Bool
  /-- 1 bit; Table 13.5; reset 0. -/
  lbf : Bool
  /-- 1 bit; R384; reset 0. -/
  alarmFlag : Bool
  /-- 1 bit, the late bit; R385; reset 0. -/
  alarmLate : Bool
  /-- 1 bit, LF source is the backup RC; R363; reset 1. -/
  lfIsRc : Bool
  /-- 32 bits, device seconds; R370; reset 0. -/
  deviceS : BitVec 32
deriving DecidableEq, Repr, Inhabited

/-- The start ledger's three words by field (Table 5.6); reserved bits and ledger_crc are formed when a word is read. -/
structure Ledger where
  /-- 1 bit; Table 5.6; reset 0. -/
  startActive : Bool
  /-- 1 bit; Table 5.6; reset 0. -/
  basalt : Bool
  /-- 2 bits; Table 5.6; reset 0. -/
  failCount : BitVec 2
  /-- 4 bits; Table 5.6; reset 0. -/
  stepReached : BitVec 4
  /-- 4 bits; Table 5.6; reset 0xF. -/
  stepFailed : BitVec 4
  /-- 8 bits; Table 5.6; reset 0. -/
  failReason : Byte
  /-- 3 bits; Table 5.6; reset 0. -/
  resetCause : BitVec 3
  /-- 14 bits, bit n for step Sn; Table 5.6; reset 0. -/
  altMask : BitVec 14
  /-- 14 bits; Table 5.6; reset 0. -/
  degradedMask : BitVec 14
  /-- 24 bits, bit k for slot k; Table 5.6; reset 0. -/
  slotFailMask : BitVec 24
deriving DecidableEq, Repr, Inhabited

/-- The strap copy (R92): three levels, six codes and their CRC-8, in 4 bytes (Table 13.1). -/
structure StrapCopy where
  levels : Three Bool
  codes  : List (BitVec 3)
  crc    : Byte
deriving DecidableEq, Repr, Inhabited

/-- The claim record (R517): the owner_hash of a claim in progress with its CRC-8; its valid bit is that it is there. -/
structure ClaimRec where
  hash : BitVec 256
  crc  : Byte
deriving DecidableEq, Repr, Inhabited

/-- An alarm setting: mode (Table 4.19), time in BCD. -/
structure AlarmSet where
  mode : BitVec 2
  hour : Byte
  min : Byte
  sec : Byte
deriving DecidableEq, Repr, Inhabited

/-- A commit request with its staging group (R375), or with none. -/
inductive Commit where
  | time (c : Cal)
  | alarm (a : AlarmSet) (src : Bool)
  | alarmClear
  | compensation (ppb : Int)
  | ledger (l : Ledger)
  | strapCopy (c : StrapCopy)
  | address (a : BitVec 10)
  | alive (s : BitVec 32)
  | claim (h : Option ClaimRec)
  | faultLatch (set : Bool)
  /-- CLEAR of LBF (Table 13.5) and the EVENT edge setting (R383), for which R375 names no group (log entry 86). -/
  | lbfClear
  | eventEdge (setting : BitVec 2)
  /-- The freeze request of a read session, which carries no group (R371). -/
  | freeze
  /-- The snapshot strobe by which the BKD times the management tick, which carries no group (R16). -/
  | strobe
  /-- The power controller's entry to SLEEP, DEEP SLEEP or OFF (Table 14.4 step 3). -/
  | entry (p : PState)
deriving DecidableEq, Repr, Inhabited

/-- The backup domain. -/
structure Bkd where
  /-- Out of power-on reset (R128); reset true. -/
  alive : Bool
  /-- Contents were lost since the last S00 (R34, R92, R370); reset true. -/
  lost : Bool
  /-- Live time registers (Table 13.2). -/
  time : TimeRegs
  /-- LF periods counted toward the next device second (R370), 0 to 32 767; reset 0. -/
  devDiv : BitVec 16
  /-- Length of the RTC second under way (R379): 32 767 to 32 769; reset 32 768. -/
  lenLf : BitVec 17
  /-- Whether S11 must still advance device_s (R370); reset true. -/
  devAdjust : Bool
  /-- Shadows: valid while a read session is open (R371); reset not valid. -/
  shadow : Option TimeRegs
  /-- Readers that joined the session (R373); reset 0. -/
  readers : Nat
  /-- LF periods since the freeze edge (R371); reset 0. -/
  sessionAge : Nat
  /-- alarm_mode and alarm_time_bcd (Table 13.4); reset 0. -/
  alarm : AlarmSet
  /-- alarm_src bit 0 (Table 13.4); reset 0. -/
  alarmSrc : Bool
  /-- last_fired_bcd: year, month, date (Table 13.4); reset 0x000000. -/
  lastFired : Byte × Byte × Byte
  /-- Signed 24 bits, comp_ppb (Table 13.4); reset 0. -/
  compPpb : BitVec 24
  /-- Signed 32 bits, compensation accumulator (R379); reset 0. -/
  accPs : BitVec 32
  /-- 32 bits, cycle timer (R240); reset stopped. -/
  timer : BitVec 32
  timerOn : Bool
  /-- Start ledger (Table 5.6). -/
  ledger : Ledger
  /-- Strap copy, none while invalid (R92); reset invalid. -/
  strapCopy : Option StrapCopy
  /-- FAULT_N latch (R519); reset released. -/
  faultLatch : Bool
  /-- Address last received by ASSIGN (R162), none while not held; reset none. -/
  address : Option (BitVec 10)
  /-- alive_s, none while unknown (R352); reset unknown. -/
  aliveS : Option (BitVec 32)
  /-- Claim record, none while not valid (R517); reset none. -/
  claimRec : Option ClaimRec
  /-- 2 bits, EVENT edge setting (Table 4.19); reset 0. -/
  eventEdge : BitVec 2
  /-- EVENT latch (R389); reset 0. -/
  eventLatch : Bool
  /-- EVENT level taken as the filter's reference (R406); reset low. -/
  eventLevel : Bool
  /-- Consecutive LBF checks below the threshold (Table 13.5), 0 to 2; reset 0. -/
  lbfBelow : BitVec 2
  /-- The strobe of a cycle's snapshot was taken since the last management tick (R16, R395); reset false. -/
  strobe : Bool
  /-- Commit requests in the order raised (R375); reset none. -/
  commits : List Commit
deriving DecidableEq, Repr, Inhabited

/-! ## Fuses, straps, image -/

/-- The fuse array and what S01 makes of it (chapter 05). -/
structure Fuse where
  /-- 25 words of 32 bits as programmed (R137); an unprogrammed fuse reads 0. -/
  words : List (BitVec 32)
  /-- Fuse shadows, 25 words; read as 0 until S01 passes (R139); reset 0. -/
  shadow : List (BitVec 32)
  /-- 64-bit UID (R142). -/
  uid : BitVec 64
  /-- Claim state (Table 5.4). -/
  claim : Claim
deriving DecidableEq, Repr, Inhabited

/-- Straps and codes in use (chapter 03); held in the Flint banks (R393). -/
structure Straps where
  /-- Levels of PULSE_A, PULSE_B, STRAP_TEST in use (true VIO) and which were substituted (R96). -/
  levels : Three Bool
  levelSub : Three Bool
  /-- Codes of CFG_A to CFG_F in use, 3 bits each; none where unknown (R510). -/
  codes : List (Option (BitVec 3))
  /-- Substituted, or derived from the line (R160). -/
  codeSub : List Bool
  /-- Read unreadable and handled by its own row of Table 3.8. -/
  codeUnread : List Bool
  /-- TSREF reading at S03 in ohm (R82). -/
  tsrefOhm : Nat
  /-- A strap change was found in this start (R95). -/
  changed : Bool
deriving DecidableEq, Repr, Inhabited

/-- A point of a custom medium table (Table 4.15). -/
structure MediumPoint where
  t100 : Int
  rho : Nat
  hJkg : Int
  nu : Nat
  c : Nat
deriving DecidableEq, Repr, Inhabited

/-- Path n section (Table 4.11). -/
structure PathConf where
  lengthUm : Nat
  axialUm : Nat
  delayTicks : Nat
  zeroOffset : Int
deriving DecidableEq, Repr, Inhabited

/-- Pipe n section (Table 4.12) and its profile table (Table 4.13). -/
structure PipeConf where
  diameterUm : Nat
  w1 : Nat
  w2 : Nat
  w3 : Nat
  cutoffUmS : Nat
  profile : Nat
  table : List (Nat × Nat)
deriving DecidableEq, Repr, Inhabited

/-- Loop section (Table 4.16). -/
structure LoopConf where
  pipe : Idx3
  flowInSupply : Bool
  mode : Nat
  supplyIsSecond : Bool
  coldMax100 : Int
deriving DecidableEq, Repr, Inhabited

/-- The parsed configuration (Tables 4.8 to 4.19); held in the Flint banks (R393); reset the Default columns. -/
structure Conf where
  meterId : BitVec 32
  mbusMan : BitVec 16
  mbusVer : Byte
  mbusMed : Byte
  label : List Byte
  cyclePeriod : Nat
  tempInterval : Nat
  saveInterval : Nat
  /-- none: no sweeps (0xFFFF). -/
  sweepInterval : Option Nat
  holdS : Nat
  idleMs : Nat
  alternating : Bool
  burst : Nat
  freqKhz : Nat
  vdrvMv : Nat
  permille : Nat
  floorCode : Nat
  ceiling : Nat
  fixedGainDb : Nat
  stamps : Nat
  paths : Three PathConf
  pipes : Three PipeConf
  medium : Nat
  custom : List MediumPoint
  loopA : LoopConf
  loopB : Option LoopConf
  pt500 : Bool
  refMohm : Nat
  leads : List Nat
  energyMwh : Nat
  volumeMl : Nat
  eventEdge : BitVec 2
  alarm : AlarmSet
  turnover100 : Int
  curve : Int
  offset10 : Int
deriving DecidableEq, Repr, Inhabited

/-- The banks in use and what IDENTIFY reports of them (Table 16.18). -/
structure Banks where
  conf : Option Bank
  confSeq : BitVec 32
  imageId : BitVec 32
  imageVersion : BitVec 32
  created : BitVec 32
  fw : Option Bank
  fwSeq : BitVec 32
  fwVersion : BitVec 32
  /-- SHA-256 digest of the firmware bank loaded at S08 (R393). -/
  fwDigest : BitVec 256
  /-- The management core's code SRAM, up to 64 KB, from which alone it executes (R492): the bytes loaded at S08 and at an exit from DEEP
  SLEEP (R402); none since DEEP SLEEP lost them (R393). -/
  code : List Byte
  /-- The firmware bank tried first in the last start (S08's alternative, Table 5.5). -/
  fwFirst : Option Bank
deriving DecidableEq, Repr, Inhabited

/-! ## External memory and MEMC (chapter 04) -/

/-- A request to MEMC for a program or an erase at run time (R125). -/
inductive MemReq where
  /-- A save: power-fail or not, save_kind, and the register bytes of the snapshot it took (none before it is served). -/
  | save (powerFail : Bool) (kind : Byte) (body : Option (List Byte))
  /-- The erase of the sector that a save's record goes to, before that save (R123, R124). -/
  | saveErase (powerFail : Bool) (kind : Byte) (body : Option (List Byte))
  /-- The erase of a save slot that becomes the other active slot (R122). -/
  | eraseSlot (slot : Nat)
  /-- The next record of the event queue to the log (R501). -/
  | log
  /-- The erase of the log sector that the next record goes to, before that record (R127). -/
  | logErase
  /-- The erase of an image session's bank from its base, at the sector with this number (Table 17.5 step 1); `own` until that session
  closes. -/
  | imageErase (base sector : Nat) (own : Bool)
  /-- A block of an image session at its offset, with the IMAGE BLOCK that waits for its answer (Table 17.5 step 3). -/
  | imageBlock (base off : Nat) (data : List Byte) (f : Frame)
  /-- The header of a checked image, with the IMAGE COMMIT that waits for its answer (Table 17.5 step 5). -/
  | imageHeader (base : Nat) (header : List Byte) (f : Frame)
deriving DecidableEq, Repr, Inhabited

/-- The fitted memory, its contents and the controller's state. -/
structure Mem where
  /-- A part answers identification (R100). -/
  present : Bool
  /-- What instruction 0x5A reads from SFDP address 0 upward, 0xFF behind its end (R100). -/
  sfdp : List Byte
  /-- The identification bytes (R100). -/
  ident : BitVec 24
  /-- Size of the part actually fitted (R537). -/
  fitted : Nat
  /-- Ranges whose program or erase fails its read-back (R124). -/
  bad : List (Nat × Nat)
  /-- Contents, canonical: an unlisted byte reads 0xFF. -/
  cells : List Host.Cell
  /-- The part is in deep power-down (R99); reset false. -/
  asleep : Bool
  /-- Discovery has run in this start (R100); reset false. -/
  known : Bool
  /-- Density in use (R101), 0 when absent. -/
  density : Nat
  /-- memory_type 1, FRAM (Table 4.3); reset 0. -/
  fram : Bool
  eraseInstr : Byte
  clkDiv : Nat
  dpd : Byte
  release : Byte
  tRelease : Nat
  progMs : Nat
  eraseMs : Nat
  suspend : Byte
  resume : Byte
  /-- The operation in progress (R125); reset none. -/
  busy : Option MemReq
  /-- Erases suspended for requests that MEMC serves before them, the latest first (R125). -/
  suspended : List MemReq
  /-- Waiting operations. -/
  queue : List MemReq
  /-- A BLOCK RESET naming MEMC waits for the end of the instruction in progress (Table 17.4). -/
  resetDue : Bool
deriving DecidableEq, Repr, Inhabited

/-- The save area's position (R121 to R124). -/
structure SaveArea where
  /-- Active slots, first and second; reset 0 and 1. -/
  first : Nat
  second : Nat
  /-- Retired slots, bit k for slot k (R124); reset 0. -/
  retired : BitVec 4
  /-- The slot and position that the next save takes. -/
  slot : Nat
  pos : Nat
  /-- save_seq of the newest completed save (Table 4.20). -/
  seq : BitVec 32
  /-- Device seconds of the newest completed save. -/
  atS : BitVec 32
  /-- No snapshot is newer than the newest completed save (R350); reset true. -/
  current : Bool
  /-- The slot that the next save enters at position 0 is to be erased first, whatever it reads: a replacement (R124), or the other active
  slot that a start goes on with (R123); reset false. -/
  eraseFirst : Bool
  /-- A scheduled save fell due (R348). -/
  due : Bool
  /-- Saves that follow the next snapshot, one per alarm firing (R387); reset 0. -/
  dueAfterSnap : Nat
  /-- No spare slot is left (R124); reset false. -/
  degraded : Bool
  /-- The battery-low save is armed (R351); reset true. -/
  lowArmed : Bool
deriving DecidableEq, Repr, Inhabited

/-- The log ring (R127, R539). -/
structure LogRing where
  /-- Position of the next record. -/
  next : Nat
  /-- A record has been found or written. -/
  any : Bool
  /-- Log pages lost to failed read-backs since the start (R503). -/
  failed : Nat
  /-- The 4 KB sector that writing has entered, so that it needs no erase before its next record (R127). -/
  sector : Option Nat
deriving DecidableEq, Repr, Inhabited

/-! ## Event arbiter (R30 to R34, R156, R501, R502) -/

/-- An event before its grant: code and argument words. -/
structure Event where
  code : BitVec 16
  args : List (BitVec 32)
deriving DecidableEq, Repr, Inhabited

/-- A log record (Table 17.2), its CRC formed when it is stored. -/
structure Record where
  seq : BitVec 32
  deviceS : BitVec 32
  code : BitVec 16
  arg : BitVec 32
deriving DecidableEq, Repr, Inhabited

/-- EVA and the queues. -/
structure Eva where
  /-- 32-bit sequence counter, held by the BKD (R34): the next number. -/
  next : BitVec 32
  /-- The last number granted. -/
  last : BitVec 32
  /-- Event queue in the Flint banks, at most 64 records (R501). -/
  queue : List Record
  /-- Events dropped for want of room and the first dropped number (R502). -/
  dropped : Nat
  firstDropped : BitVec 32
  /-- The log is set up (after S08), so that grants go to the queue (R156); reset false. -/
  logReady : Bool
  /-- Grants withheld until the counter is set (R156). -/
  withhold : Bool
  /-- Events of the start held before the log is set up, at most 16 (R156): number once granted, device seconds, event. -/
  held : List (Option (BitVec 32) × BitVec 32 × Event)
  /-- Excess over 16 (R156). -/
  excess : Nat
  /-- Events raised in SLEEP or deeper that wait for the wake (R32). -/
  waiting : List Event
deriving DecidableEq, Repr, Inhabited

/-- A latched flag (R478). -/
structure LFlag where
  set : Bool
  count : BitVec 16
  gen : Byte
deriving DecidableEq, Repr, Inhabited

/-! ## Clocks, start, power -/

/-- The presence check of the reference (R18): good cycles in a row, holding at 4096; LF periods since the first good edge, up to 64;
and the reference cycles counted in them. -/
structure Presence where
  good    : Nat
  periods : Nat
  cycles  : Nat
deriving DecidableEq, Repr, Inhabited

/-- The core clock domain (R15 to R19, R365, R419). -/
structure Clk where
  /-- The counters of the presence check (R18). -/
  presence : Presence
  /-- The core domain is powered and out of reset. -/
  core : Bool
  /-- The core runs on the reference rather than the RC (R15). -/
  onRef : Bool
  /-- The reference oscillator is enabled (R17). -/
  refOn : Bool
  /-- The reference has been declared present in this wake (R18). -/
  declared : Bool
  /-- The degraded mode "reference absent" (R148, R419). -/
  absent : Bool
deriving DecidableEq, Repr, Inhabited

/-- Where the device stands in a start. -/
inductive StartPhase where
  /-- No power on reset release yet, or reset asserted: waits for the start. -/
  | inReset
  /-- In step Sn, waiting for its end or its limit. -/
  | step (n : Nat)
  /-- The restart delay after a failed start (R153). -/
  | delay
  /-- Basalt mode (R157). -/
  | basalt
  /-- The factory test state (R5). -/
  | factory
  /-- The start has succeeded. -/
  | running
deriving DecidableEq, Repr, Inhabited

/-- The start controller (chapter 05). -/
structure Start where
  phase : StartPhase
  /-- reset_cause of the start to come (Table 5.6). -/
  cause : BitVec 3
  /-- The inputs of the start under way. -/
  input : Option StartIn
  /-- Steps passed in degraded form in this start (R147). -/
  degraded : BitVec 14
  /-- "A start … used the bank its policy tries second, or followed a failed start" (Table 16.11 bit 0). -/
  secondBank : Bool
  afterFail : Bool
  /-- AG out of service (R313). -/
  agOut : Bool
  /-- The first valid cycle's absent-quantity check has run (R74). -/
  pulseChecked : Bool
  /-- The status bit "stamps limited" (R191). -/
  limited : Bool
  /-- Basalt mode has been left, and no start has succeeded since (R523). -/
  owed : Bool
deriving DecidableEq, Repr, Inhabited

/-- What a PRQ request is for. -/
inductive PrqWhy where
  /-- A wake to RUN for the current votes; vdrv for a cycle. -/
  | wake (vdrv : Bool)
  /-- VDRV for a cycle while in RUN or IDLE. -/
  | cycle
  /-- Release of VDRV, or of the run voltage, with nothing waiting on it. -/
  | releaseVdrv
  /-- Entry to SLEEP or DEEP SLEEP. -/
  | entry (p : PState)
  /-- Exit from DEEP SLEEP, step 4 of Table 14.5. -/
  | deepExit
  /-- A voltage-only retry after a wake failure (R417). -/
  | retry
deriving DecidableEq, Repr, Inhabited

/-- An outstanding request. -/
structure PrqReq where
  word : BitVec 16
  why : PrqWhy
  second : Bool
deriving DecidableEq, Repr, Inhabited

/-- PRQ (R410 to R415). -/
structure Prq where
  /-- 3-bit tag of the next request; reset 0. -/
  tag : BitVec 3
  req : Option PrqReq
  /-- vcore_sel last acknowledged. -/
  vcore : BitVec 2
  /-- VDRV acknowledged on. -/
  vdrv : Bool
  /-- Brown-out level in force as vcore_sel, none while disarmed (R415). -/
  bor : Option (BitVec 2)
deriving DecidableEq, Repr, Inhabited

/-- The transition under way (R408). -/
inductive Trans where
  | none
  /-- Waiting for MEMC to finish before the request of Table 14.4. -/
  | entryMemc (p : PState)
  /-- Waiting for the acknowledge, or the commit, of Table 14.4. -/
  | entryPrq (p : PState)
  | entryCommit (p : PState)
  /-- From E to E + 4. -/
  | lossWindow (p : PState)
  /-- Exit from SLEEP: waiting for PRQ, then for the reference. -/
  | exitSleep
  /-- Exit from DEEP SLEEP: strobe, settled, request, reload. -/
  | deepStrobe
  | deepStart
  | deepReload
deriving DecidableEq, Repr, Inhabited

/-- A wake failure in progress (R417). -/
structure WakeFail where
  attempt : Nat
  fromState : PState
  sinceS : BitVec 32
  reason : Byte
deriving DecidableEq, Repr, Inhabited

/-- The power controller (chapter 14). -/
structure Power where
  /-- Table 14.1; reset RUN. -/
  state : PState
  trans : Trans
  /-- Votes of the seven clients, codes 0 to 2 (Table 14.2); reset 2. -/
  seq : BitVec 2
  tiu : BitVec 2
  fe : BitVec 2
  ee : BitVec 2
  ag : BitVec 2
  lnk : BitVec 2
  hmc : BitVec 2
  /-- LNK's standing vote (R20). -/
  standing : Bool
  /-- The vote that a STATE request holds (Table 14.3): none, RUN or IDLE. -/
  hold : Option (BitVec 2)
  /-- The idle timer runs (R396). -/
  idleTimer : Bool
  /-- Parked in DEEP SLEEP or OFF (R398). -/
  parked : Option PState
  /-- The latest STATE target that waits for a transition (R408) or a sweep (R409) to end. -/
  latchedState : Option (BitVec 3)
  /-- Held wake requests (Table 14.7). -/
  heldTick : Bool
  heldMgmt : Option Sensors
  heldWake : Bool
  heldMatcher : Bool
  /-- Wake failure in progress (R417). -/
  fail : Option WakeFail
  /-- VBAT has been at or above 2.70 V since it was below 2.60 V, and PWRON (R129). -/
  vbatGood : Bool
  /-- VBAT stands at or above 2.70 V, as the latest command that shows it said (R388). -/
  vbat27 : Bool
  pwron : Bool
  /-- RESET_N is held low with effect (R57). -/
  resetLow : Bool
  /-- A parked member serves a hit (R486). -/
  serving : Bool
deriving DecidableEq, Repr, Inhabited

/-! ## Acoustic front end (chapter 06) -/

/-- Where a direction's receive lane stands. -/
inductive LanePhase where
  | idle
  /-- Receive-ready, before the window opens. -/
  | waiting
  /-- Window open, waiting for the threshold. -/
  | searching
  /-- Threshold fired; waiting for the falling arming edge. -/
  | armed
  /-- Half-periods are counted from the arming edge. -/
  | counting
  /-- After the flip edge; crossings are numbered. -/
  | stamping
  | released
deriving DecidableEq, Repr, Inhabited

/-- A direction of a path in the AFE. -/
structure AfeDir where
  /-- 8 bits, thr_code in force (R181). -/
  thr : Byte
  /-- 8 bits, peak code (R182). -/
  peak : Byte
  /-- saturated flag (R182). -/
  saturated : Bool
  /-- Last result (Table 6.8). -/
  result : DirResult
  /-- Polarity lock: none unset, some true high (R188). -/
  lock : Option Bool
  /-- Reference lead count (R189). -/
  refLead : Option Nat
  /-- 16-bit threshold-skip counter (R189). -/
  skips : BitVec 16
  /-- Ten 16-bit result counters by result code (R196). -/
  counts : List (BitVec 16)
  phase : LanePhase
  /-- Latest edge in grid units from the direction's launch. -/
  edge : Nat
  /-- Normal half-periods since the arming edge (R185). -/
  lead : Nat
  /-- Re-armings used (R187). -/
  rearms : Nat
  /-- The threshold fired inside the window. -/
  fired : Bool
  /-- The flip was found: level high, flip edge (R185). -/
  flip : Option (Bool × Nat)
  /-- Number of the last crossing after the flip edge (R190). -/
  crossing : Nat
  /-- A condition of Table 6.8 met so far. -/
  early : Bool
  irregular : Bool
  noFlip : Bool
  noLead : Bool
  foreign : Bool
  truncated : Bool
deriving DecidableEq, Repr, Inhabited

/-- A path in the AFE. -/
structure AfePath where
  /-- 3 bits, gain code in use (Table 6.4). -/
  gain : BitVec 3
  /-- 3 bits, gain code that the next pair is launched with (R180). -/
  nextGain : BitVec 3
  /-- low_count (R180). -/
  low : Nat
  /-- n_used (R191). -/
  nUsed : Nat
  /-- A drive fault in this cycle (R170). -/
  drive : Bool
  /-- The pads that a drive fault keeps clamped for the rest of the cycle (R170). -/
  clamp : Two Bool
  dirs : Two AfeDir
deriving DecidableEq, Repr, Inhabited

/-! ## Time interval unit (chapter 07) -/

/-- A calibration record (Table 7.8). -/
structure CalRec where
  c1x16 : BitVec 32
  c2x16 : BitVec 32
  sdX16 : BitVec 16
  atS : BitVec 32
  inl : List Int
deriving DecidableEq, Repr, Inhabited

/-- What an assigned slot waits for. -/
inductive SlotUse where
  | free
  /-- Assigned to a stamp of a direction (R208). -/
  | stamp (p : Idx3) (d : Dir) (k : Nat)
  /-- Charged by a handed crossing in a grid unit. -/
  | charged (p : Idx3) (d : Dir) (k : Nat) (q : Nat)
  /-- Ended with TIMEOUT; it waits for its reset at its turn on the SAR (R202). -/
  | timeout
  /-- A test slot that no edge has charged yet (R235). -/
  | testWait
  | testStart (q : Nat)
  | testStop (q : Nat)
deriving DecidableEq, Repr, Inhabited

/-- A slot. -/
structure Slot where
  /-- slot_state 0 to 3 (Table 7.8). -/
  state : BitVec 2
  /-- retire_cause (Table 7.10). -/
  cause : BitVec 4
  cal : CalRec
  use : SlotUse
deriving DecidableEq, Repr, Inhabited

/-- The slot result of a stamp (R202, R214, R215). -/
inductive SlotResult where
  | ok | timeout | failed
deriving DecidableEq, Repr, Inhabited

/-- What the TIU publishes of one stamp to the flow engine (R214): its number k, the slot, the slot result, and rel_ticks, none where
no edge came (TIMEOUT). -/
structure Stamp where
  k : Nat
  slot : Nat
  result : SlotResult
  rel : Option Nat
deriving DecidableEq, Repr, Inhabited

/-- A direction's stop window and what was stamped in the pair under way. -/
structure WinDir where
  openQ : Nat
  closeQ : Nat
  flipPred : Nat
  stamps : List Stamp
deriving DecidableEq, Repr, Inhabited

/-- A path in the TIU. -/
structure TiuPath where
  window : WindowState
  miss : Nat
  /-- n_eff of the pair under way (R207). -/
  nEff : Nat
  dirs : Two WinDir
  /-- A conversion of the pair failed a check (R226). -/
  failed : Bool
deriving DecidableEq, Repr, Inhabited

/-- The direct test mode (R235 to R237). -/
inductive TestPhase where
  | armed
  /-- Started: the slots of the start edge and of the stop edge, and the start's grid unit. -/
  | started (hi lo q : Nat)
  /-- Both edges taken: the two slots, and the start and stop stamps as they come. -/
  | converting (hi lo : Nat) (start stop : Option Nat)
deriving DecidableEq, Repr, Inhabited

/-- The TIU. -/
structure Tiu where
  /-- 24 slots (R201). -/
  slots : List Slot
  paths : Three TiuPath
  /-- 24 bits, the coarse counter as the latest command shows it (R198). -/
  coarse : BitVec 24
  /-- Launch stamps' coarse counts of the first and second launch (R200). -/
  launch1 : BitVec 24
  launch2 : BitVec 24
  /-- Slot lent for a temperature conversion (R210). -/
  loan : Option (Fin 24)
  convFail : BitVec 16
  repeats : BitVec 16
  s10Mask : BitVec 24
  /-- Vernier figures (Table 7.11). -/
  res10fs : BitVec 16
  ring100fs : BitVec 16
  /-- ta_ps and tb_ps as the last good ring calibration gives them, each a numerator and a denominator in 0.01 ps (R231). -/
  ringA : Nat × Nat
  ringB : Nat × Nat
  checkPass : Bool
  checkDev : BitVec 7
  /-- INL calibration and cross-check are skipped until a self-test passes (R233). -/
  vernierBad : Bool
  /-- Device seconds of the last gain and INL calibrations (R221). -/
  gainAtS : Option (BitVec 32)
  inlAtS : Option (BitVec 32)
  test : TestPhase
  testSeq : Byte
  testResult : BitVec 4
  testTicks : BitVec 40
deriving DecidableEq, Repr, Inhabited

/-! ## Measurement sequencer (chapter 08) -/

/-- A cycle's kind. -/
inductive CycleKind where
  | normal | sweep | suspended
deriving DecidableEq, Repr, Inhabited

/-- Where the cycle under way stands (Table 8.2). -/
inductive CyclePhase where
  | none
  /-- Steps 1 to 4: before the launch edge. -/
  | before
  /-- From the launch to the conversions in hand. -/
  | launched
  | second
  | repeating
deriving DecidableEq, Repr, Inhabited

/-- A gap or pre-cycle job (R258, R261). -/
inductive Job where
  | gain | temp | inl
  /-- Pre-cycle: full calibration after regaining the reference or a TIU reset (R224, Table 17.4). -/
  | full
  /-- Pre-cycle: gain calibration after DEEP SLEEP. -/
  | preGain
deriving DecidableEq, Repr, Inhabited

/-- SEQ. -/
structure Seq where
  phase : CyclePhase
  kind : CycleKind
  /-- Beginning of the cycle under way (R292). -/
  begin : BitVec 32
  /-- The PRQ acknowledge of the cycle's VDRV request is in. -/
  acked : Bool
  /-- Nominal tick count (R240). -/
  nominal : BitVec 32
  /-- d_n of the cycle (R241). -/
  dither : Int
  parity : Bool
  cycles : BitVec 32
  skipped : BitVec 16
  /-- Cycles abandoned in the present run (R244). -/
  run : Nat
  unfit : Bool
  unfitLogged : Bool
  /-- Jobs due. -/
  gainDue : Bool
  tempDue : Bool
  inlDue : Bool
  sweepDue : Bool
  preFull : Bool
  preGain : Bool
  /-- The job running, and the jobs left in this gap (R260). -/
  job : Option Job
  jobs : List Job
  /-- Sweep: launches made, first launch's device seconds, start device seconds. -/
  sweepOn : Bool
  sweepIdx : Nat
  sweepFirstS : BitVec 32
  sweeps : BitVec 16
  lastSweepS : BitVec 32
  /-- Paths whose repeat is under way or was made in this cycle (R228). -/
  repeated : Three Bool
  /-- Paths that the cycle fires (R246). -/
  fired : Three Bool
  lenUs : BitVec 16
  altGap : BitVec 16
  /-- The AFE as before the cycle under way, for a cycle that the reference's absence discards (Table 7.15). -/
  before : Three AfePath
  /-- Power-fail: no new cycle (Table 12.6). -/
  pfStop : Bool
  /-- A TIME SET deferred by a sweep (R268). -/
  deferred : Option Cal
  /-- A BLOCK RESET deferred to the snapshot or abandonment (Table 17.4). -/
  resets : List Byte
  /-- The last normal cycle fits within the sweep spacing (R266); reset true. -/
  lastFits : Bool
  /-- A drive fault arose in the cycle under way, and in the last completed one (R521). -/
  driveNow : Bool
  driveLast : Bool
  /-- The cycle timer at the 256th snapshot of the last sweep, until a tick 4.0 ms later (R310). -/
  sweepEnd : Option (BitVec 32)
deriving DecidableEq, Repr, Inhabited

/-! ## Flow engine (chapter 09) -/

/-- A path in the FE: Table 9.7 and the held values. -/
structure FePath where
  tUp16 : BitVec 40
  tDn16 : BitVec 40
  dt16 : BitVec 32
  vUm : BitVec 32
  c : BitVec 24
  pair : PairResult
  /-- Beginning of the cycle of the last pair. -/
  pairBegin : BitVec 32
  oneParity : Bool
  state : PathState
  invalidCount : BitVec 16
  spread : BitVec 16
  /-- Beginning of the cycle of the last VALID pair, and LF periods since. -/
  lastBegin : Option (BitVec 32)
  holdAge : BitVec 16
  /-- v_line_nm_s of the last VALID pair of each parity since INVALID (R291). -/
  v0 : Option Int
  v1 : Option Int
  /-- v_line_nm_s in use in this cycle. -/
  v : Int
  /-- dt_x256 of the last 32 valid pairs of each parity (R278). -/
  dts0 : List Int
  dts1 : List Int
  /-- dt_x256 and v_line_nm_s of this cycle's VALID pair, for AG (R296). -/
  sample : Option (Int × Int)
deriving DecidableEq, Repr, Inhabited

/-- A pipe in the FE: Table 9.8 and its counters. -/
structure FePipe where
  /-- 48 bits signed, flow handed to EE in nL/s (R288, R295). -/
  q : Int
  /-- v_mean_nm_s before the cutoff (R283). -/
  v : Int
  re : BitVec 32
  k : BitVec 24
  state : PipeState
  implausible : Bool
  substituted : Bool
  cutoff : Bool
  renorm : Bool
  inUse : BitVec 3
  corr : Int
  cDev : BitVec 16
  tFlow100 : BitVec 16
  /-- Consecutive checks beyond 1.0 %, and within 0.5 % (R298). -/
  beyond : Nat
  inside : Nat
  /-- Cutoff changes in the open hour, and the hour's opening (R300, R540). -/
  hourAt : Option (BitVec 32)
  hourCount : BitVec 16
  /-- Counts of hours that have closed and wait for the management tick (R540). -/
  hourClosed : List (BitVec 16)
deriving DecidableEq, Repr, Inhabited

/-- The FE. -/
structure Fe where
  paths : Three FePath
  pipes : Three FePipe
deriving DecidableEq, Repr, Inhabited

/-! ## Pulsation analyser (chapter 10) -/

/-- A pipe's record of Table 10.2. -/
structure AgPipe where
  result : SweepResult
  clamped : Bool
  suppressed : Bool
  refPath : BitVec 2
  maxGap : Byte
  nPresent : BitVec 16
  f0c100 : BitVec 16
  nHarm : Byte
  vTrueUm : BitVec 32
  vSelUm : BitVec 32
  corr : Int
  foldBack : BitVec 16
  amps : List (BitVec 16)
deriving DecidableEq, Repr, Inhabited

/-- AG. -/
structure Ag where
  /-- A valid result is in use (Table 10.2 ag_flags 7). -/
  inUse : Bool
  lastInvalid : Bool
  abandoned : Bool
  outOfService : Bool
  resultSweep : BitVec 16
  resultS : BitVec 32
  /-- Galois register s (R308). -/
  lfsr : BitVec 16
  seed : BitVec 16
  pipes : Three AgPipe
  /-- The 256 samples of each path as FE passes them, newest last (R302). -/
  series : Three (List (Option Int))
  /-- The sweep has ended and its analysis runs (R310). -/
  analysing : Bool
  /-- AG was reset during the sweep, so that it ends without a result (Table 10.3). -/
  noResult : Bool
deriving DecidableEq, Repr, Inhabited

/-! ## Temperature (chapter 11) -/

/-- A sensor TS1 to TS4 (Table 11.5). -/
structure Sensor where
  /-- Signed ts_c10000 published. -/
  t : BitVec 32
  rMohm : BitVec 32
  last : SensorResult
  state : SensorState
  /-- An OK result was the last while FAULT (Table 11.4). -/
  okOnce : Bool
  /-- An OK result has occurred since the start (R284, Table 11.4). -/
  good : Bool
  faults : BitVec 16
deriving DecidableEq, Repr, Inhabited

/-- A conversion set under way (R319 to R323). `none` in the order is TSREF, `some n` is TSn (0 to 3). -/
structure TempSet where
  left : List (Option (Fin 4))
  /-- Times in ticks so far; `none` where a discharge gave no stop. -/
  refTimes : List Nat
  times : List (Fin 4 × Option Nat)
  restarted : Bool
  /-- The set belongs to a sweep (R263). -/
  ofSweep : Bool
deriving DecidableEq, Repr, Inhabited

/-- The temperature conversion. -/
structure Temp where
  sensors : List Sensor
  set : Option TempSet
  sets : BitVec 32
  /-- LF periods since the last completed set ended, holding; none before the first. -/
  age : Option Nat
  tRef10 : BitVec 24
  /-- The four TSREF times of the last completed set added, in ticks; 0 before the first (R321). -/
  tRefSum : Nat
  mismatch : Bool
  lastReference : Bool
  lastNoResult : Bool
  restarted : Bool
  setFails : BitVec 16
deriving DecidableEq, Repr, Inhabited

/-! ## Energy engine (chapter 12) -/

/-- A pipe's registers. -/
structure EePipe where
  fwd : BitVec 64
  rev : BitVec 48
  errS : BitVec 32
  fwdRes : Nat
  revRes : Nat
  errRes : Nat
deriving DecidableEq, Repr, Inhabited

/-- A loop's registers. -/
structure EeLoop where
  heat : BitVec 64
  cold : BitVec 64
  mass : BitVec 64
  errS : BitVec 32
  estHeat : BitVec 32
  estCold : BitVec 32
  power : BitVec 32
  reverse : Bool
  outOfRange : Bool
  /-- loop_state [3:0]. -/
  state : BitVec 4
  heatRes : Nat
  coldRes : Nat
  massRes : Nat
  errRes : Nat
deriving DecidableEq, Repr, Inhabited

/-- A pulse output (R357 to R359). -/
inductive PulsePhase where
  | idle | high | low
deriving DecidableEq, Repr, Inhabited

/-- A pulse pad. -/
structure PulsePad where
  pending : BitVec 16
  phase : PulsePhase
  /-- Opening of the hour of pulse drops (R359, R540). -/
  hourAt : Option (BitVec 32)
deriving DecidableEq, Repr, Inhabited

/-- EE. -/
structure Ee where
  /-- The Flint banks hold what they held (their CRCs are valid) (R131, R353). -/
  banksOk : Bool
  pipes : Three EePipe
  loopA : EeLoop
  loopB : EeLoop
  begin : Option (BitVec 32)
  /-- ee_flags [7], [6], [5], [3], [2] (Table 12.4). -/
  restored : Bool
  unsaved : Bool
  massRestart : Bool
  pulseLost : Bool
  lowSave : Bool
  lost : BitVec 16
  unsavedS : BitVec 32
  padA : PulsePad
  padB : PulsePad
  /-- device_s of the latest cycle that integrated (R352). -/
  lastIntS : Option (BitVec 32)
deriving DecidableEq, Repr, Inhabited

/-! ## Management core (chapter 17) -/

/-- HMC. -/
structure Hmc where
  /-- Released from reset (R136). -/
  on : Bool
  /-- LF periods since the watchdog was serviced (R496). -/
  dog : Nat
  /-- Device seconds of the latest watchdog resets (Table 5.1). -/
  dogs : List (BitVec 32)
  /-- Watchdog resets that wait to be logged (R496). -/
  dogLog : Nat
  /-- Device seconds of the last management tick; none before the first (R395). -/
  tickS : Option (BitVec 32)
  /-- Latest die temperature in 0.01 °C (R497), and at the last gain calibration (Table 7.9). -/
  die100 : Int
  dieAtCal : Int
  /-- Consecutive ticks outside and inside the limits, and whether outside was logged, per sensor (R498). -/
  outside : List (Nat × Nat × Bool)
  /-- Device seconds of the last sensor record and the last compensation commit. -/
  recordS : Option (BitVec 32)
  compS : Option (BitVec 32)
deriving DecidableEq, Repr, Inhabited

/-- An image session (R508). -/
structure ImgSession where
  firmware : Bool
  bank : Bank
  length : Nat
  next : Nat
  header : List Byte
  erasing : Bool
  eraseFailed : Bool
  lastBlock : Option (Nat × List Byte)
deriving DecidableEq, Repr, Inhabited

/-! ## Link (chapters 15, 16) -/

/-- What a port sent last. -/
inductive Sent where
  /-- A frame: destination, source, type, sequence, payload. -/
  | frame (dest src : BitVec 10) (type : BitVec 6) (seq : BitVec 6) (payload : List Byte)
  | trainUnit (body : List Byte)
  | mbus (bytes : List Byte)
deriving DecidableEq, Repr, Inhabited

/-- The kinds of train. -/
inductive TrainKind where
  | sweep | enumerate | notice
deriving DecidableEq, Repr, Inhabited

/-- An armed member's train (R464). -/
structure Train where
  kind : TrainKind
  turn : BitVec 10
  mask : BitVec 16
  tag : BitVec 4
deriving DecidableEq, Repr, Inhabited

/-- A member's stored response (R457). -/
structure Cached where
  src : BitVec 10
  type : BitVec 6
  seq : BitVec 6
  sent : Sent
deriving DecidableEq, Repr, Inhabited

/-- The snapshot of one unit set (R25). -/
structure Snapshot where
  time : TimeRegs
  eventSeq : BitVec 32
  pstate : PState
  role : Role
  basalt : Bool
  absent : Bool
  parked : Bool
  address : BitVec 10
  /-- LF periods since the snapshot's freeze edge, holding (R480). -/
  ageLf : Nat
  seq : List Byte
  afe : List Byte
  afeCounts : List Byte
  tiu : List Byte
  fe : List Byte
  ag : List Byte
  temp : List Byte
  ee : List Byte
  phy : List Byte
  status : BitVec 16
  flags : List LFlag
  sweepCycle : Bool
  /-- Values that records are formed from. -/
  flowNlS : Int
  volumeUl : BitVec 64
  heatMwh : BitVec 64
  coldMwh : BitVec 64
  supply : Int
  ret : Int
  /-- The registers that a save takes (R349). -/
  regs : List Byte
deriving DecidableEq, Repr, Inhabited

/-- LNK. -/
structure Lnk where
  /-- Out of reset (R136). -/
  on : Bool
  /-- Address held (R459). -/
  address : BitVec 10
  /-- Snapshot latched by the last matched header, for trains (R28, R464). -/
  latched : Option Snapshot
  /-- The device seconds at the latch (Table 16.7 stale). -/
  latchedS : BitVec 32
  armed : Option Train
  cache : Option Cached
  sentLu : Option Sent
  sentLd : Option Sent
  /-- Generations at the last notice, per flag; none before any (R474). -/
  notice : List (Option Byte)
  /-- A block reset that waits for an ACK to leave: 0x07 (Table 17.4), or 0x00 after a passed IMAGE COMMIT (Table 17.5 step 5). -/
  resetAfter : Option Byte
deriving DecidableEq, Repr, Inhabited

/-- Where an insertion stands (Table 15.5). -/
inductive Insertion where
  | out
  | waitLine
  | waitGap
  | inserted
  /-- The pass element stays closed for 50 µs after the bypass closed (Table 15.6). -/
  | removing
deriving DecidableEq, Repr, Inhabited

/-- The L-die (chapter 15). -/
structure Phy where
  ins : Insertion
  bypassClosed : Bool
  passClosed : Bool
  repeater : Bool
  /-- Direction held by the repeater (R438). -/
  dir : Option Port
  tail : Bool
  /-- A change of the tail flag that waits for an idle gap (R446). -/
  tailNext : Option Bool
  isolated : Bool
  powerFail : Bool
  /-- A warning has arisen since the L-die has its supply, from which on VLINK3 is held from VHOLD (R61). -/
  holdUp : Bool
  inverted : Bool
  /-- Head's injector: on, in limit, off for a retry; retries in the episode. -/
  injector : Bool
  inLimit : Bool
  retrying : Bool
  retries : Nat
  inserts : BitVec 16
  isolates : BitVec 16
  violations : BitVec 16
  powerFails : BitVec 16
  /-- Latest measurement (R451). -/
  meas : PhyMeas
deriving DecidableEq, Repr, Inhabited

/-- A billing register as a reader reconstructs it (R356): full_u in L or Wh, and low_prev. -/
structure LowReg where
  full : Int
  prev : BitVec 24
deriving DecidableEq, Repr, Inhabited

/-- A member's registers at the head, anchored by a READ: volume, heat and cold (R356, R472). -/
structure ReadRegs where
  volume : LowReg
  heat : LowReg
  cold : LowReg
deriving DecidableEq, Repr, Inhabited

/-- A member in an M-Bus head's table (R476). -/
structure Member where
  uid : BitVec 64
  address : BitVec 10
  present : Bool
  missed : Nat
  /-- Parked by a STATE of the head (R476). -/
  parked : Bool
  /-- Its last PING answer or header part shows it parked (Tables 16.12 and 16.16; R487). -/
  asleep : Bool
  /-- Position from the head, 1 to 1000; 0 before a SWEEP has shown it (R472). -/
  position : Nat
  /-- None until a READ has anchored them (R356). -/
  regs : Option ReadRegs
deriving DecidableEq, Repr, Inhabited

/-- A request the head waits on (R460, R462). -/
structure HeadReq where
  dest : BitVec 10
  type : BitVec 6
  seq : BitVec 6
  payload : List Byte
  tries : Nat
  /-- Forwarded from upstream: the requester's address (R463). -/
  upstream : Option (BitVec 10)
  /-- A PING has gone ahead of it to a member parked in DEEP SLEEP (R487). -/
  woken : Bool
  /-- A response with failed checks has come while it waited (Table 16.21). -/
  garbled : Bool
deriving DecidableEq, Repr, Inhabited

/-- A train that the head expects: its kind, the units that have arrived, and whether its request was already repeated (R468). -/
structure HeadTrain where
  kind : TrainKind
  units : List (List Byte)
  retried : Bool
deriving DecidableEq, Repr, Inhabited

/-- The selected device of an M-Bus head (R488). -/
inductive Selected where
  | none
  | self
  | member (a : BitVec 10)
deriving DecidableEq, Repr, Inhabited

/-- The outcome of the head's reads of a selected member's parts (R490). -/
inductive PartReads where
  /-- Read so far: part and bytes. -/
  | pending (got : List (Byte × List Byte))
  | failed
  | done (p00 p05 p07 p08 : List Byte)
deriving DecidableEq, Repr, Inhabited

/-- The chain head (R462, R463, R468, R470, R476, R488 to R490). -/
structure Head where
  seq : BitVec 6
  req : Option HeadReq
  /-- Requests of an M-Bus head that wait their turn (R460). -/
  todo : List HeadReq
  train : Option HeadTrain
  table : List Member
  /-- Address of the first unit of the last good train, per kind (R468). -/
  firstSweep : Option (BitVec 10)
  firstEnum : Option (BitVec 10)
  /-- Member addresses of the last good SWEEP (R476). -/
  seen : List (BitVec 10)
  /-- Addresses that two members hold, until resolved, each with the number of holders that still need another address, once a whole
  ENUMERATE has shown it (R477). -/
  duplicates : List (BitVec 10 × Option Nat)
  selected : Selected
  reads : PartReads
  fcb : Option Bool
  lastRsp : List Byte
  accessNo : Byte
deriving DecidableEq, Repr, Inhabited

/-! ## The whole -/

/-- The state of the device. -/
structure State where
  bkd : Bkd
  fuse : Fuse
  straps : Straps
  conf : Conf
  banks : Banks
  mem : Mem
  save : SaveArea
  log : LogRing
  eva : Eva
  flags : List LFlag
  clk : Clk
  start : Start
  prq : Prq
  power : Power
  afe : Three AfePath
  tiu : Tiu
  seq : Seq
  fe : Fe
  ag : Ag
  temp : Temp
  ee : Ee
  hmc : Hmc
  img : Option ImgSession
  snap : Snapshot
  lnk : Lnk
  phy : Phy
  head : Head
  /-- The model's own: a counter that each free value reads and advances; no spec state. -/
  free : Nat
  /-- Commands waiting, first in, first out. -/
  pending : List Instr
deriving DecidableEq, Repr, Inhabited

/-! ## Reset

The instant described is the one after the backup power-on reset has been released with every supply good: the core is still in
reset and waits for CORE_POR_RELEASE. Values that the spec does not state are those of log entry 1 (DESIGN CHOICE). -/

/-- Table 13.2's Default column: 2000-01-01 00:00:00, Saturday, OSF set, LF source the backup RC. -/
def TimeRegs.reset : TimeRegs :=
  { subsec := 0, cal := ⟨0, 0, 0, 0x01, 0x01, 0x00⟩, weekday := 6, osf := true, lbf := false, alarmFlag := false,
    alarmLate := false, lfIsRc := true, deviceS := 0 }

/-- Table 5.6's Default column. -/
def Ledger.reset : Ledger :=
  { startActive := false, basalt := false, failCount := 0, stepReached := 0, stepFailed := 0xF, failReason := 0,
    resetCause := 0, altMask := 0, degradedMask := 0, slotFailMask := 0 }

/-- Table 13.1's last column. -/
def Bkd.reset : Bkd :=
  { alive := true, lost := true, time := TimeRegs.reset, devDiv := 0, lenLf := 32768, devAdjust := true, shadow := none,
    readers := 0, sessionAge := 0, alarm := ⟨0, 0, 0, 0⟩, alarmSrc := false, lastFired := (0, 0, 0),
    compPpb := 0, accPs := 0, timer := 0, timerOn := false, ledger := Ledger.reset, strapCopy := none, faultLatch := false,
    address := none, aliveS := none, claimRec := none, eventEdge := 0, eventLatch := false, eventLevel := false,
    lbfBelow := 0, strobe := false, commits := [] }

/-- An array with the defaults of Table 5.3 and no other fuse programmed (R137): word 2 holds stepping 0x3 and grade 0x1. Nothing is
loaded (R139). -/
def Fuse.reset : Fuse :=
  { words := [0, 0, 0x31000000] ++ List.replicate 22 0, shadow := List.replicate 25 0, uid := 0, claim := .unclaimed }

/-- No strap read yet: all levels GND and all codes open. -/
def Straps.reset : Straps :=
  { levels := .const false, levelSub := .const false, codes := List.replicate 6 (some 7),
    codeSub := List.replicate 6 false, codeUnread := List.replicate 6 false, tsrefOhm := 0, changed := false }

/-- The Default columns of Tables 4.8 to 4.19 with battery supply; path and pipe fields, which have no default, are 0. -/
def Conf.reset : Conf :=
  { meterId := 0, mbusMan := 0, mbusVer := 0, mbusMed := 0, label := List.replicate 8 0x20, cyclePeriod := 8192,
    tempInterval := 30, saveInterval := 900, sweepInterval := some 900, holdS := 8, idleMs := 1, alternating := false,
    burst := 16, freqKhz := 1000, vdrvMv := 5000, permille := 400, floorCode := 24, ceiling := 200, fixedGainDb := 24,
    stamps := 4, paths := .const ⟨0, 0, 0, 0⟩, pipes := .const ⟨0, 0, 0, 0, 1000, 0, []⟩, medium := 0, custom := [],
    loopA := ⟨.one, false, 0, false, 2500⟩, loopB := none, pt500 := false, refMohm := 1000000, leads := [0, 0, 0, 0],
    energyMwh := 0, volumeMl := 0, eventEdge := 0, alarm := ⟨0, 0, 0, 0⟩, turnover100 := 2500, curve := -34, offset10 := 0 }

/-- No bank in use. -/
def Banks.reset : Banks :=
  { conf := none, confSeq := 0, imageId := 0, imageVersion := 0, created := 0, fw := none, fwSeq := 0, fwVersion := 0,
    fwDigest := 0, code := [], fwFirst := none }

/-- The SFDP space of a 1 MB part with 4 KB erase instruction 0x20 (JESD216): signature and header, one parameter header of nine words
at 0x10, and that table. -/
def sfdp1MB : List Byte :=
  [0x53, 0x46, 0x44, 0x50, 0x00, 0x01, 0x00, 0xFF, 0x00, 0x00, 0x01, 0x09, 0x10, 0x00, 0x00, 0xFF,
   0xE5, 0x20, 0xF1, 0xFF, 0xFF, 0xFF, 0x7F, 0x00] ++ List.replicate 28 0

/-- An erased 1 MB NOR part with SFDP, not yet discovered; parameters in Table 4.3's Default column. -/
def Mem.reset : Mem :=
  { present := true, sfdp := sfdp1MB, ident := 0xEF4014, fitted := 1048576, bad := [], cells := [], asleep := false, known := false,
    density := 0, fram := false, eraseInstr := 0x20, clkDiv := 2, dpd := 0, release := 0xAB, tRelease := 50, progMs := 5,
    eraseMs := 500, suspend := 0, resume := 0, busy := none, suspended := [], queue := [], resetDue := false }

/-- Slots 0 and 1 active from new (R122). -/
def SaveArea.reset : SaveArea :=
  { first := 0, second := 1, retired := 0, slot := 0, pos := 0, seq := 0, atS := 0, current := true, eraseFirst := false, due := false,
    dueAfterSnap := 0, degraded := false, lowArmed := true }

/-- An empty arbiter; the counter at 0. -/
def Eva.reset : Eva :=
  { next := 0, last := 0, queue := [], dropped := 0, firstDropped := 0, logReady := false, withhold := false, held := [],
    excess := 0, waiting := [] }

/-- The core domain not yet running. -/
def Clk.reset : Clk :=
  { presence := ⟨0, 0, 0⟩, core := false, onRef := false, refOn := false, declared := false, absent := false }

/-- Waiting for the core power-on release with reset_cause 0. -/
def Start.reset : Start :=
  { phase := .inReset, cause := 0, input := none, degraded := 0, secondBank := false, afterFail := false, agOut := false,
    pulseChecked := false, limited := false, owed := false }

/-- No request sent; VCORE at 0.90 V, VDRV off (R130). -/
def Prq.reset : Prq := { tag := 0, req := none, vcore := 2, vdrv := false, bor := some 2 }

/-- RUN, no vote, PWRON high (R129). -/
def Power.reset : Power :=
  { state := .run, trans := .none, seq := 2, tiu := 2, fe := 2, ee := 2, ag := 2, lnk := 2, hmc := 2, standing := false,
    hold := none, idleTimer := false, parked := none, latchedState := none, heldTick := false,
    heldMgmt := none, heldWake := false, heldMatcher := false, fail := none, vbatGood := true, vbat27 := true, pwron := true,
    resetLow := false, serving := false }

/-- A direction at rest (Table 16.17). -/
def AfeDir.reset : AfeDir :=
  { thr := 0, peak := 0, saturated := false, result := .ok, lock := none, refLead := none, skips := 0,
    counts := List.replicate 10 0, phase := .idle, edge := 0, lead := 0, rearms := 0, fired := false, flip := none,
    crossing := 0, early := false, irregular := false, noFlip := false, noLead := false, foreign := false,
    truncated := false }

/-- A path at rest (Table 16.17). -/
def AfePath.reset : AfePath :=
  { gain := 0, nextGain := 0, low := 0, nUsed := 0, drive := false, clamp := .const false, dirs := .const AfeDir.reset }

/-- A slot with no calibration (Table 7.8). -/
def Slot.reset : Slot :=
  { state := 0, cause := 0, cal := { c1x16 := 0, c2x16 := 0, sdX16 := 0, atS := 0, inl := List.replicate 32 0 }, use := .free }

/-- A path's windows before any pair. -/
def TiuPath.reset : TiuPath :=
  { window := .acquisition, miss := 0, nEff := 0, dirs := .const ⟨0, 0, 0, []⟩, failed := false }

/-- The TIU at rest (Table 7.11). -/
def Tiu.reset : Tiu :=
  { slots := List.replicate 24 Slot.reset, paths := .const TiuPath.reset, coarse := 0, launch1 := 0, launch2 := 0, loan := none,
    convFail := 0, repeats := 0, s10Mask := 0, res10fs := 0, ring100fs := 0, ringA := (0, 1), ringB := (0, 1),
    checkPass := false, checkDev := 0,
    vernierBad := false, gainAtS := none, inlAtS := none, test := .armed, testSeq := 0, testResult := 0, testTicks := 0 }

/-- SEQ at rest (Table 8.4). -/
def Seq.reset : Seq :=
  { phase := .none, kind := .normal, begin := 0, acked := false, nominal := 0, dither := 0, parity := false, cycles := 0,
    skipped := 0, run := 0, unfit := false, unfitLogged := false, gainDue := false, tempDue := false, inlDue := false,
    sweepDue := false, preFull := false, preGain := false, job := none, jobs := [], sweepOn := false, sweepIdx := 0,
    sweepFirstS := 0, sweeps := 0, lastSweepS := 0, repeated := .const false, fired := .const false, lenUs := 0, altGap := 0,
    before := .const AfePath.reset, pfStop := false, deferred := none, resets := [], lastFits := true, driveNow := false,
    driveLast := false, sweepEnd := none }

/-- A path record at Table 9.7's defaults. -/
def FePath.reset : FePath :=
  { tUp16 := 0, tDn16 := 0, dt16 := 0, vUm := 0, c := 0, pair := .valid, pairBegin := 0, oneParity := false, state := .notUsed,
    invalidCount := 0, spread := 0, lastBegin := none, holdAge := 0, v0 := none, v1 := none, v := 0, dts0 := [], dts1 := [],
    sample := none }

/-- A pipe record at Table 9.8's defaults; the cutoff state is set at each start (R287). -/
def FePipe.reset : FePipe :=
  { q := 0, v := 0, re := 0, k := 0, state := .notUsed, implausible := false, substituted := false, cutoff := true,
    renorm := false, inUse := 0, corr := 0, cDev := 0, tFlow100 := 0, beyond := 0, inside := 0, hourAt := none, hourCount := 0, hourClosed := [] }

/-- FE at rest. -/
def Fe.reset : Fe := { paths := .const FePath.reset, pipes := .const FePipe.reset }

/-- A pipe record at Table 10.2's defaults. -/
def AgPipe.reset : AgPipe :=
  { result := .notUsed, clamped := false, suppressed := false, refPath := 0, maxGap := 0, nPresent := 0, f0c100 := 0,
    nHarm := 0, vTrueUm := 0, vSelUm := 0, corr := 0, foldBack := 0, amps := List.replicate 12 0 }

/-- AG with no result (R311). -/
def Ag.reset : Ag :=
  { inUse := false, lastInvalid := false, abandoned := false, outOfService := false, resultSweep := 0, resultS := 0,
    lfsr := 0, seed := 0, pipes := .const AgPipe.reset, series := .const [], analysing := false, noResult := false }

/-- A sensor at Table 11.5's defaults. -/
def Sensor.reset : Sensor :=
  { t := 0, rMohm := 0, last := .ok, state := .notUsed, okOnce := false, good := false, faults := 0 }

/-- The temperature part at Table 11.5's defaults. -/
def Temp.reset : Temp :=
  { sensors := List.replicate 4 Sensor.reset, set := none, sets := 0, age := none, tRef10 := 0, tRefSum := 0, mismatch := false,
    lastReference := false, lastNoResult := false, restarted := false, setFails := 0 }

/-- A pipe's registers at 0. -/
def EePipe.reset : EePipe := { fwd := 0, rev := 0, errS := 0, fwdRes := 0, revRes := 0, errRes := 0 }

/-- A loop's registers at 0. -/
def EeLoop.reset : EeLoop :=
  { heat := 0, cold := 0, mass := 0, errS := 0, estHeat := 0, estCold := 0, power := 0, reverse := false,
    outOfRange := false, state := 0, heatRes := 0, coldRes := 0, massRes := 0, errRes := 0 }

/-- A pulse pad at rest. -/
def PulsePad.reset : PulsePad := { pending := 0, phase := .idle, hourAt := none }

/-- EE after a loss of the Flint banks. -/
def Ee.reset : Ee :=
  { banksOk := false, pipes := .const EePipe.reset, loopA := EeLoop.reset, loopB := EeLoop.reset, begin := none,
    restored := false, unsaved := false, massRestart := false, pulseLost := false, lowSave := false, lost := 0,
    unsavedS := 0, padA := PulsePad.reset, padB := PulsePad.reset, lastIntS := none }

/-- HMC in reset. -/
def Hmc.reset : Hmc :=
  { on := false, dog := 0, dogs := [], dogLog := 0, tickS := none, die100 := 2500, dieAtCal := 2500,
    outside := List.replicate 5 (0, 0, false), recordS := none, compS := none }

/-- A snapshot buffer with every field at its table's default. -/
def Snapshot.reset : Snapshot :=
  { time := TimeRegs.reset, eventSeq := 0, pstate := .run, role := .standAlone, basalt := false, absent := false,
    parked := false, address := 1022, ageLf := 0, seq := List.replicate 24 0, afe := List.replicate 96 0,
    afeCounts := List.replicate 120 0, tiu := List.replicate 32 0, fe := List.replicate 192 0, ag := List.replicate 160 0,
    temp := List.replicate 64 0, ee := List.replicate 216 0, phy := List.replicate 16 0, status := 0,
    flags := List.replicate 16 ⟨false, 0, 0⟩, sweepCycle := false, flowNlS := 0, volumeUl := 0, heatMwh := 0, coldMwh := 0,
    supply := 0, ret := 0, regs := List.replicate 114 0 }

/-- LNK in reset, at the unassigned address. -/
def Lnk.reset : Lnk :=
  { on := false, address := 1022, latched := none, latchedS := 0, armed := none, cache := none,
    sentLu := none, sentLd := none, notice := List.replicate 16 none, resetAfter := none }

/-- The L-die with its bypass closed (Table 15.4). -/
def Phy.reset : Phy :=
  { ins := .out, bypassClosed := true, passClosed := false, repeater := false, dir := none, tail := false, tailNext := none, isolated := false,
    powerFail := false, holdUp := false, inverted := false, injector := false, inLimit := false, retrying := false, retries := 0, inserts := 0,
    isolates := 0, violations := 0, powerFails := 0, meas := ⟨0, 0, 0, false⟩ }

/-- A head that has sent nothing. -/
def Head.reset : Head :=
  { seq := 0, req := none, todo := [], train := none, table := [], firstSweep := none, firstEnum := none, seen := [], duplicates := [],
    selected := .none, reads := .failed, fcb := none, lastRsp := [], accessNo := 0 }

/-- The machine right after reset. -/
def State.reset : State :=
  { bkd := Bkd.reset, fuse := Fuse.reset, straps := Straps.reset, conf := Conf.reset, banks := Banks.reset, mem := Mem.reset,
    save := SaveArea.reset, log := { next := 0, any := false, failed := 0, sector := none }, eva := Eva.reset,
    flags := List.replicate 16 ⟨false, 0, 0⟩, clk := Clk.reset, start := Start.reset, prq := Prq.reset, power := Power.reset,
    afe := .const AfePath.reset, tiu := Tiu.reset, seq := Seq.reset, fe := Fe.reset, ag := Ag.reset, temp := Temp.reset,
    ee := Ee.reset, hmc := Hmc.reset, img := none, snap := Snapshot.reset, lnk := Lnk.reset, phy := Phy.reset,
    head := Head.reset, free := 0, pending := [] }

end Sys2Proof.Machine
end

