-- ==== Sys2Proof/Machine/Bytes.lean ====
section
/-!
DEFINITION. Byte order (R12: most significant byte first), rounding (R12), binary-coded decimal, and the three checks the
device uses: CRC-8 (R92, R150, R455, R517), CRC-16 (R471) and CRC-32 (R106).
-/
namespace Sys2Proof.Machine

/-- The `n` low bytes of `x`, most significant first (R12). -/
def beN : Nat → Nat → List Byte
  | 0, _ => []
  | n + 1, x => BitVec.ofNat 8 (x / 256 ^ n) :: beN n x

/-- A bit vector as `n` bytes, most significant first. -/
def be {w : Nat} (n : Nat) (x : BitVec w) : List Byte := beN n x.toNat

/-- An integer as `n` bytes in two's complement. -/
def beI (n : Nat) (x : Int) : List Byte := be n (BitVec.ofInt (8 * n) x)

/-- The number that bytes spell, most significant first. -/
def natOfBe (bs : List Byte) : Nat := bs.foldl (fun acc b => acc * 256 + b.toNat) 0

/-- The signed number that bytes spell in two's complement. -/
def intOfBe (bs : List Byte) : Int := (BitVec.ofNat (8 * bs.length) (natOfBe bs)).toInt

/-- `n` bytes from an offset. -/
def slice (bs : List Byte) (off n : Nat) : List Byte := (bs.drop off).take n

/-- The number in `n` bytes at an offset. -/
def fieldN (bs : List Byte) (off n : Nat) : Nat := natOfBe (slice bs off n)

/-- The signed number in `n` bytes at an offset. -/
def fieldI (bs : List Byte) (off n : Nat) : Int := intOfBe (slice bs off n)

/-- `n` zero bytes. -/
def zeros (n : Nat) : List Byte := List.replicate n 0

/-- Every byte is the given one. -/
def allEq (b : Byte) (bs : List Byte) : Bool := bs.all (· == b)

/-- Quotient rounded to the nearest integer, halves away from zero (R12). -/
def roundDiv (n : Int) (d : Nat) : Int :=
  if 0 ≤ n then (2 * n + d) / (2 * d : Nat) else -((2 * (-n) + d) / (2 * d : Nat))

/-- Quotient of integers rounded, halves away from zero; the sign of a negative divisor moves to the numerator. -/
def roundDivI (n d : Int) : Int := if 0 ≤ d then roundDiv n d.toNat else roundDiv (-n) (-d).toNat

/-- Largest integer not above the quotient (R12). -/
def floorDiv (n : Int) (d : Nat) : Int := Int.fdiv n d

/-- A value held between two bounds. -/
def clampI (lo hi x : Int) : Int := max lo (min hi x)

/-- A count that holds at a maximum. -/
def holdAt (m x : Nat) : Nat := min m x

/-- The bits of a root from bit `k - 1` down, added to those found so far. -/
def rootFrom (n : Nat) : Nat → Nat → Nat
  | 0, r => r
  | k + 1, r => rootFrom n k (if (r + 2 ^ k) * (r + 2 ^ k) ≤ n then r + 2 ^ k else r)

/-- The largest integer whose square does not exceed `n`. -/
def rootOf (n : Nat) : Nat := rootFrom n (n.log2 / 2 + 1) 0

/-- An 8-bit binary-coded decimal of two valid digits. -/
def bcdOk (b : Byte) : Bool := b.toNat / 16 < 10 && b.toNat % 16 < 10

/-- The number that a BCD byte spells. -/
def ofBcd (b : Byte) : Nat := b.toNat / 16 * 10 + b.toNat % 16

/-- A number below 100 in BCD. -/
def toBcd (n : Nat) : Byte := BitVec.ofNat 8 (n / 10 % 10 * 16 + n % 10)

/-- Number of ones in a bit vector. -/
def ones {w : Nat} (x : BitVec w) : Nat := (List.range w).foldl (fun n i => if x.getLsbD i then n + 1 else n) 0

/-- One byte into a CRC without reflection: `w` bits wide, with polynomial `poly`. -/
def crcStep (w : Nat) (poly : BitVec w) (crc : BitVec w) (b : Byte) : BitVec w :=
  (List.range 8).foldl (fun c _ => if c.msb then (c <<< 1) ^^^ poly else c <<< 1)
    (crc ^^^ (BitVec.ofNat w (b.toNat * 2 ^ (w - 8))))

/-- CRC-8, polynomial 0x07, initial value 0x00 (R455, R92, R150, R517). -/
def crc8 (bs : List Byte) : BitVec 8 := bs.foldl (crcStep 8 0x07) 0

/-- CRC-16, polynomial 0x1021, initial value 0xFFFF, no reflection, no final XOR (Table 16.6). -/
def crc16 (bs : List Byte) : BitVec 16 := bs.foldl (crcStep 16 0x1021) 0xFFFF

/-- One byte into the reflected CRC-32: polynomial 0x04C11DB7 read from the other end. -/
def crc32Step (crc : BitVec 32) (b : Byte) : BitVec 32 :=
  (List.range 8).foldl (fun c _ => if c.getLsbD 0 then (c >>> 1) ^^^ 0xEDB88320 else c >>> 1) (crc ^^^ b.setWidth 32)

/-- CRC-32 of R106: initial value and final XOR 0xFFFFFFFF, input and output reflected. -/
def crc32 (bs : List Byte) : BitVec 32 := bs.foldl crc32Step 0xFFFFFFFF ^^^ 0xFFFFFFFF

end Sys2Proof.Machine
end

