-- ==== Sys2Proof/Machine/Store.lean ====
section
/-!
DEFINITION. The external serial memory's bytes (R97, R102): a list of cells with strictly rising addresses and no entry equal
to what an unlisted address reads as, the reads and writes over it, and the erase.
-/
namespace Sys2Proof.Machine

/-- What an address that nothing has written reads as: an erased byte. DESIGN CHOICE, log entry 3. -/
def unlisted : Byte := 0xFF

/-- The byte at an address. -/
def cellRead : List Host.Cell → Nat → Byte
  | [], _ => unlisted
  | (k, b) :: rest, a => if a = k then b else cellRead rest a

/-- One byte stored; storing `unlisted` removes the entry. -/
def cellWrite : List Host.Cell → Nat → Byte → List Host.Cell
  | [], a, v => if v = unlisted then [] else [(a, v)]
  | (k, b) :: rest, a, v =>
    if a < k then (if v = unlisted then (k, b) :: rest else (a, v) :: (k, b) :: rest)
    else if a = k then (if v = unlisted then rest else (a, v) :: rest)
    else (k, b) :: cellWrite rest a v

/-- The canonical form: addresses strictly rising and no entry equal to `unlisted`. -/
def cellsWf : List Host.Cell → Bool
  | [] => true
  | [(_, b)] => b != unlisted
  | (k, b) :: (k', b') :: rest => b != unlisted && decide (k < k') && cellsWf ((k', b') :: rest)

/-- Bytes stored from an address upward. -/
def cellsWrite : List Host.Cell → Nat → List Byte → List Host.Cell
  | cs, _, [] => cs
  | cs, a, v :: vs => cellsWrite (cellWrite cs a v) (a + 1) vs

/-- The cell that an offset selects: within the fitted part itself, beyond it a free value (R537). -/
def Mem.cellOf (m : Mem) (a : Nat) : Nat := if a < m.fitted then a else Config.beyondPart m.fitted a

/-- The byte that instruction 0x03 reads at an offset (R99); an absent part reads 0xFF. -/
def Mem.byte (m : Mem) (a : Nat) : Byte := if m.present then cellRead m.cells (m.cellOf a) else 0xFF

/-- `n` bytes read from an offset, one by one. -/
def Mem.bytesSlow (m : Mem) (a : Nat) : Nat → List Byte
  | 0 => []
  | n + 1 => m.byte a :: m.bytesSlow (a + 1) n

/-- The `n` bytes from an address upward in one pass over rising cells. -/
def cellsRange : List Host.Cell → Nat → Nat → List Byte
  | [], _, n => List.replicate n unlisted
  | (k, b) :: rest, a, n =>
    if k < a then cellsRange rest a n
    else if k < a + n then List.replicate (k - a) unlisted ++ b :: cellsRange rest (k + 1) (a + n - (k + 1))
    else List.replicate n unlisted

/-- `n` bytes read from an offset. -/
def Mem.bytes (m : Mem) (a n : Nat) : List Byte :=
  if m.present && decide (a + n ≤ m.fitted) then cellsRange m.cells a n else m.bytesSlow a n

/-- One byte programmed. -/
def Mem.put (m : Mem) (a : Nat) (v : Byte) : Mem :=
  if m.present then { m with cells := cellWrite m.cells (m.cellOf a) v } else m

/-- Bytes programmed from an offset upward. -/
def Mem.program : Mem → Nat → List Byte → Mem
  | m, _, [] => m
  | m, a, v :: vs => (m.put a v).program (a + 1) vs

/-- `n` bytes made to read 0xFF: the 4 KB sector erase of NOR (R99), or the fill of Table 17.5 on FRAM. -/
def Mem.eraseRange (m : Mem) (a n : Nat) : Mem := m.program a (List.replicate n 0xFF)

/-- Whether an operation over `n` bytes at an offset reads back good: the part is there and no failing range meets it
(R107, R124). -/
def Mem.opOk (m : Mem) (a n : Nat) : Bool :=
  m.present && m.bad.all (fun r => decide (a + n ≤ r.1) || decide (r.2 < a))

/-- The canonical form of the memory. -/
def Mem.wf (m : Mem) : Bool := cellsWf m.cells

end Sys2Proof.Machine
end

