-- ==== Sys2Proof/Machine/Ops.lean ====
section
/-!
DEFINITION. The shared operations of the device: raising and granting events (EVA), latched flags, commits to the backup
domain, the FAULT_N latch, votes, retirement of free values, and the ledger's words. A block has no exception entry: raising an
event, a flag or the fault latch is the command's effect on State.
-/
namespace Sys2Proof.Machine

/-! ## Small access -/

/-- Live device seconds (R370). -/
def State.now (s : State) : BitVec 32 := s.bkd.time.deviceS

/-- The core domain runs, so that an event can be granted (R32): in RUN or IDLE. -/
def State.awake (s : State) : Bool := s.clk.core && (s.power.state == .run || s.power.state == .idle)

/-- Cycles run: the start has reached S12. -/
def State.cycling (s : State) : Bool :=
  match s.start.phase with
  | .running => true
  | .step n => decide (12 ≤ n)
  | .inReset | .delay | .basalt | .factory => false

/-- The core domain switches onto the reference, and the coarse counter restarts at 0 (R17, R198). -/
def toReference (s : State) : State := { s with clk := { s.clk with onRef := true }, tiu := { s.tiu with coarse := 0 } }

/-- The device is in Basalt mode. -/
def State.inBasalt (s : State) : Bool := s.start.phase == .basalt

/-- The votes decide the state: the start has reached its cycles, or Basalt mode holds the link. -/
def State.powerManaged (s : State) : Bool := s.cycling || s.inBasalt

/-- A code in use of CFG_A to CFG_F (0 to 5). -/
def State.code (s : State) (i : Nat) : Option (BitVec 3) := s.straps.codes.getD i none

/-- Table 3.3: role. An unknown or reserved code leaves the device stand-alone. -/
def roleOf : Option (BitVec 3) → Role
  | some 0 => .member
  | some 1 => .head
  | some 2 => .head
  | _ => .standAlone

/-- The role in use. -/
def State.role (s : State) : Role := roleOf (s.code 0)

/-- Table 3.3: link supply mode. -/
def State.linkSupply (s : State) : Bool := s.role != .standAlone

/-- CFG_A code 2: the upstream port is an EN 13757-2 slave. -/
def State.mbusHead (s : State) : Bool := s.code 0 == some 2

/-- A head with a Watal upstream port. -/
def State.watalHead (s : State) : Bool := s.code 0 == some 1

/-- Table 3.4: which paths the code uses. -/
def pathsUsed : Option (BitVec 3) → Three Bool
  | some 0 => ⟨true, true, false⟩
  | some 2 => ⟨true, true, false⟩
  | some 1 => ⟨true, true, true⟩
  | some 3 => ⟨true, true, true⟩
  | some 4 => ⟨true, true, true⟩
  | _ => ⟨true, false, false⟩

/-- Table 3.4: the paths of each pipe, in their order; none for a pipe that the code does not provide. -/
def pipePaths : Option (BitVec 3) → Idx3 → List Idx3
  | some 0, .one => [.one, .two]
  | some 1, .one => [.one, .two, .three]
  | some 2, .one => [.one]
  | some 2, .two => [.two]
  | some 3, .one => [.one]
  | some 3, .two => [.two]
  | some 3, .three => [.three]
  | some 4, .one => [.one, .two]
  | some 4, .two => [.three]
  | some 7, .one => [.one]
  | _, _ => []

/-- Path in use under CFG_B. -/
def State.pathUsed (s : State) (p : Idx3) : Bool := (pathsUsed (s.code 1)).get p

/-- Number of paths in use. -/
def State.nPaths (s : State) : Nat := (Idx3.all.filter s.pathUsed).length

/-- Paths of a pipe under CFG_B. -/
def State.pipePaths (s : State) (p : Idx3) : List Idx3 := Machine.pipePaths (s.code 1) p

/-- Automatic gain under codes 1, 3 and 4 (R84, R179). -/
def State.autoGain (s : State) : Bool := s.code 1 == some 1 || s.code 1 == some 3 || s.code 1 == some 4

/-- A free value's place: the counter read and advanced. -/
def State.spend (s : State) : State := { s with free := s.free + 1 }

/-! ## Events (R30 to R34, R499 to R502) -/

/-- A 32-bit argument. -/
def arg (n : Nat) : List (BitVec 32) := [BitVec.ofNat 32 n]

/-- The records of an event: one, and a continuation per further argument word (R500). -/
def recordsOf (seq dev : BitVec 32) (e : Event) : List Record :=
  match e.args with
  | [] => [⟨seq, dev, e.code, 0⟩]
  | x :: xs => ⟨seq, dev, e.code, x⟩ :: xs.map (fun y => ⟨seq, dev, e.code ||| 0x8000, y⟩)

/-- Places records in the event queue if all fit in its 64, and counts the event as dropped otherwise (R501, R502). -/
def Eva.enqueue (v : Eva) (seq : BitVec 32) (rs : List Record) : Eva :=
  if v.queue.length + rs.length ≤ 64 then { v with queue := v.queue ++ rs }
  else { v with dropped := v.dropped + 1, firstDropped := if v.dropped = 0 then seq else v.firstDropped }

/-- One grant: the next number, and the event's place (R30, R156, R501). -/
def Eva.grant (v : Eva) (dev : BitVec 32) (e : Event) : Eva :=
  if v.logReady then
    { v.enqueue v.next (recordsOf v.next dev e) with next := v.next + 1, last := v.next }
  else if v.withhold then
    if v.held.length < 16 then { v with held := v.held ++ [(none, dev, e)] } else { v with excess := v.excess + 1 }
  else
    let w := { v with next := v.next + 1, last := v.next }
    if v.held.length < 16 then { w with held := v.held ++ [(some v.next, dev, e)] } else { w with excess := v.excess + 1 }

/-- The place of an event in the order of R31: its requester, which the high byte of its code names. Of the BKD's own events an EVENT
edge comes last, behind the RTC alarm (the example under R34; log entry 84). -/
def Event.place (e : Event) : Nat := 2 * (e.code.toNat / 256) + (if e.code = 0x0106 then 1 else 0)

/-- An event put behind those of its place and before those of later ones. -/
def insertByCode (e : Event) : List Event → List Event
  | [] => [e]
  | x :: xs => if e.place < x.place then e :: x :: xs else x :: insertByCode e xs

/-- Events raised in SLEEP or deeper wait for the wake, in the order of R31 (R32). -/
def Eva.postpone (v : Eva) (e : Event) : Eva := { v with waiting := insertByCode e v.waiting }

/-! ## Votes (R394, R396) -/

/-- A client's vote. -/
def Power.vote (p : Power) : Client → BitVec 2
  | .seq => p.seq
  | .tiu => p.tiu
  | .fe => p.fe
  | .ee => p.ee
  | .ag => p.ag
  | .lnk => p.lnk
  | .hmc => p.hmc

/-- A client's vote replaced. -/
def Power.setVote (p : Power) : Client → BitVec 2 → Power
  | .seq, v => { p with seq := v }
  | .tiu, v => { p with tiu := v }
  | .fe, v => { p with fe := v }
  | .ee, v => { p with ee := v }
  | .ag, v => { p with ag := v }
  | .lnk, v => { p with lnk := v }
  | .hmc, v => { p with hmc := v }

/-- LNK's vote with its standing vote and the vote that a STATE request holds (Table 14.2, Table 14.3). -/
def Power.lnkVote (p : Power) : Nat :=
  min p.lnk.toNat (min (if p.standing then 1 else 2) ((p.hold.map BitVec.toNat).getD 2))

/-- The lowest vote, capped at 2 (R396). -/
def Power.target (p : Power) : Nat :=
  min 2 (min p.seq.toNat (min p.tiu.toNat (min p.fe.toNat (min p.ee.toNat
    (min p.ag.toNat (min p.lnkVote p.hmc.toNat))))))

/-- The code of a power state (Table 14.1). -/
def PState.toCode : PState → Nat
  | .run => 0
  | .idle => 1
  | .sleep => 2
  | .deep => 3
  | .off => 4

/-- A vote of the new set lies below what it was: a client has raised it (R394). -/
def Power.raisedBy (old new : Power) : Bool :=
  decide (new.seq.toNat < old.seq.toNat) || decide (new.tiu.toNat < old.tiu.toNat) || decide (new.fe.toNat < old.fe.toNat) ||
  decide (new.ee.toNat < old.ee.toNat) || decide (new.ag.toNat < old.ag.toNat) || decide (new.lnkVote < old.lnkVote) ||
  decide (new.hmc.toNat < old.hmc.toNat)

/-- R396: a vote raised stops the idle timer, and from IDLE a target of RUN is reached at once; a target that falls starts the timer;
anything else leaves it. A parked device and one in a transition follow no vote. -/
def Power.revote (old new : Power) : Power :=
  if new.parked.isSome || new.trans != .none then new
  else if old.raisedBy new then
    { new with idleTimer := false, state := if new.state = .idle && new.target == 0 then .run else new.state }
  else if old.target < new.target then { new with idleTimer := decide (new.state.toCode < new.target) }
  else new

/-- The votes changed, with what follows from it. -/
def revote (f : Power → Power) (s : State) : State := { s with power := s.power.revote (f s.power) }

/-- A client votes. -/
def voteFor (c : Client) (v : BitVec 2) (s : State) : State := revote (fun p => p.setVote c v) s

/-- The idle timer as the votes in force ask for it, where a transition or a park has ended (R396, R408). -/
def retime (s : State) : State :=
  if s.power.parked.isNone && s.power.trans == .none then
    { s with power := { s.power with idleTimer := decide (s.power.state.toCode < s.power.target) } }
  else s

/-- The votes in force take effect where a transition or a park has ended: from IDLE to RUN at once, downward by the idle timer (R396,
R399). -/
def reach (s : State) : State :=
  if s.power.trans == .none && s.power.parked.isNone && s.power.state == .idle && s.power.target == 0 then
    { s with power := { s.power with state := .run, idleTimer := false } }
  else retime s

/-! ## Memory map (Table 4.2) -/

def confBase : Bank → Nat
  | .a => 0x001000
  | .b => 0x005000

def fwBase : Bank → Nat
  | .a => 0x010000
  | .b => 0x020000

def saveBase : Nat := 0x030000

def logBase : Nat := 0x040000

/-- Base of a slot. -/
def slotBase (k : Nat) : Nat := saveBase + 4096 * k

/-- Base of the 4 KB sector of a log position. -/
def sectorBase (p : Nat) : Nat := logBase + 4096 * (p / 256)

/-- On NOR the next record is the first into a sector that holds records, so that the sector is erased before it (R127). -/
def Mem.logErases (m : Mem) (g : LogRing) : Bool :=
  !m.fram && g.sector != some (g.next / 256) && !allEq 0xFF (m.bytes (sectorBase g.next) 4096)

/-- The base of an image session's bank. -/
def ImgSession.base (i : ImgSession) : Nat := if i.firmware then fwBase i.bank else confBase i.bank

/-- A session that ends without a commit leaves its bank without a header, whatever its erase came to: the 64 bytes at the bank's base
read 0xFF (R510, R511; log entry 29). -/
def Mem.dropHeader (m : Mem) (i : ImgSession) : Mem := m.eraseRange i.base 64

/-- A write of an image session. -/
def MemReq.ofImage : MemReq → Bool
  | .imageErase _ _ _ | .imageBlock _ _ _ _ | .imageHeader _ _ _ => true
  | .save _ _ _ | .saveErase _ _ _ | .eraseSlot _ | .log | .logErase => false

/-- An operation in progress that outlives its session: an erase is no later session's (R511). -/
def MemReq.orphan : MemReq → MemReq
  | .imageErase base k _ => .imageErase base k false
  | r => r

/-- A session closes without a commit: its bank has no header, and what it still asked of MEMC lapses, but for the instruction in progress
(R511, Table 17.4). -/
def Mem.closeImage (m : Mem) (i : ImgSession) : Mem :=
  { m.dropHeader i with busy := m.busy.map MemReq.orphan, queue := m.queue.filter (fun r => !r.ofImage),
                        suspended := m.suspended.filter (fun r => !r.ofImage) }

/-- Whether the save's place must be erased first: position 0, on NOR, of a slot that R123 or R124 has erased whatever it reads, or of one
that is not blank. -/
def State.saveErases (s : State) : Bool :=
  !s.mem.fram && s.save.pos == 0 && (s.save.eraseFirst || !allEq 0xFF (s.mem.bytes (slotBase s.save.slot) 4096))

/-! ## Requests to MEMC (R125) -/

/-- The order in which MEMC serves waiting requests (R125): power-fail save, scheduled save, log write, image block write with the erase
and the header of its session. The erase of R122 stands with the scheduled save (DEDUCED, log entry 60). -/
def MemReq.rank : MemReq → Nat
  | .save true _ _ => 0
  | .saveErase true _ _ => 0
  | .save false _ _ => 1
  | .saveErase false _ _ => 1
  | .eraseSlot _ => 1
  | .log => 2
  | .logErase => 2
  | .imageErase _ _ _ => 3
  | .imageBlock _ _ _ _ => 3
  | .imageHeader _ _ _ => 3

/-- Whether a request is the erase of a sector that can be suspended. That before a save's record is not: the one request that goes
before it is a power-fail save, which needs the same sector (log entry 60). -/
def MemReq.isErase : MemReq → Bool
  | .eraseSlot _ => true
  | .imageErase _ _ _ => true
  | .logErase => true
  | .save _ _ _ => false
  | .saveErase _ _ _ => false
  | .log => false
  | .imageBlock _ _ _ _ => false
  | .imageHeader _ _ _ => false

/-- The first request of the lowest rank, and the rest in their order. -/
def takeRank (r : Nat) : List MemReq → Option (MemReq × List MemReq)
  | [] => none
  | q :: qs =>
    if q.rank = r then some (q, qs)
    else (takeRank r qs).map (fun x => (x.1, q :: x.2))

/-- The request served next. -/
def nextReq (qs : List MemReq) : Option (MemReq × List MemReq) :=
  match takeRank 0 qs with
  | some x => some x
  | none =>
    match takeRank 1 qs with
    | some x => some x
    | none =>
      match takeRank 2 qs with
      | some x => some x
      | none => takeRank 3 qs

/-- A save takes the registers of the snapshot served when it begins (R348). -/
def MemReq.withBody (regs : List Byte) : MemReq → MemReq
  | .save pf k none => .save pf k (some regs)
  | r => r

/-- An idle controller takes its next request; the erase suspended last resumes unless a request that goes before it waits (R125). -/
def Mem.serve (regs : List Byte) (m : Mem) : Mem :=
  if m.busy.isSome then m
  else
    match nextReq m.queue, m.suspended with
    | none, [] => m
    | none, e :: es => { m with busy := some e, suspended := es }
    | some (q, qs), [] => { m with busy := some (q.withBody regs), queue := qs }
    | some (q, qs), e :: es =>
      if q.rank < e.rank then { m with busy := some (q.withBody regs), queue := qs }
      else { m with busy := some e, suspended := es }

/-- A request raised: it suspends an erase in progress that it goes before, on NOR with both instructions set (R125, Table 4.1). -/
def Mem.ask (regs : List Byte) (r : MemReq) (m : Mem) : Mem :=
  let m := { m with queue := m.queue ++ [r] }
  match m.busy with
  | some e =>
    if r.rank < e.rank && e.isErase && !m.fram && m.suspend != 0 && m.resume != 0 then
      Mem.serve regs { m with busy := none, suspended := e :: m.suspended }
    else m
  | none => m.serve regs

/-- The memory is there with at least 1 MB, as discovery found it (R101). -/
def Mem.usable (m : Mem) : Bool := m.known && decide (1048576 ≤ m.density)

/-- The management core holds its vote for RUN while MEMC works for it (Table 14.2). -/
def memVote (s : State) : State :=
  if !s.hmc.on then s
  else voteFor .hmc (if s.mem.busy.isSome || !s.mem.suspended.isEmpty || !s.mem.queue.isEmpty then 0 else 2) s

/-- The instruction with which the service of a request begins: the erase of its sector where a save or a log record needs one. -/
def State.firstOf (s : State) : MemReq → MemReq
  | .save pf k body => if s.saveErases then .saveErase pf k body else .save pf k body
  | .log => if s.mem.logErases s.log then .logErase else .log
  | r => r

/-- What MEMC has taken up begins with its first instruction. -/
def begins (s : State) : State := { s with mem := { s.mem with busy := s.mem.busy.map s.firstOf } }

/-- A request to MEMC. -/
def requestMem (r : MemReq) (s : State) : State := memVote (begins { s with mem := s.mem.ask s.snap.regs r })

/-- A request is a part of a log write. -/
def MemReq.ofLog : MemReq → Bool
  | .log | .logErase => true
  | .save _ _ _ | .saveErase _ _ _ | .eraseSlot _ | .imageErase _ _ _ | .imageBlock _ _ _ _ | .imageHeader _ _ _ => false

/-- A log write is under way or waits. -/
def Mem.logAsked (m : Mem) : Bool := m.busy.any MemReq.ofLog || m.suspended.any MemReq.ofLog || m.queue.any MemReq.ofLog

/-- The queue is written at once when it holds 32 records (R501). -/
def logWhenHalf (s : State) : State :=
  if 32 ≤ s.eva.queue.length && s.hmc.on && s.mem.usable && !s.mem.logAsked then requestMem .log s else s

/-- The management core works for a moment: it raises its vote for RUN, which stays while MEMC works for it and falls otherwise (Table
14.2, R494). -/
def workMoment (s : State) : State := if s.hmc.on then memVote (voteFor .hmc 0 s) else s

/-- Raises an event: granted now when the core runs, which the management core works on, after the wake otherwise (R32, R494). -/
def raise (code : BitVec 16) (args : List (BitVec 32)) (s : State) : State :=
  if s.awake then workMoment (logWhenHalf { s with eva := s.eva.grant s.now ⟨code, args⟩ })
  else { s with eva := s.eva.postpone ⟨code, args⟩ }

/-- The waiting events are granted at the wake, in the order of R31 (R32). -/
def Eva.grantWaiting (v : Eva) (dev : BitVec 32) : Eva :=
  v.waiting.foldl (fun w e => w.grant dev e) { v with waiting := [] }

/-- The grants that follow a wake, which the management core works on (R494, R501). -/
def grantWaiting (s : State) : State :=
  if s.awake && !s.eva.waiting.isEmpty then workMoment (logWhenHalf { s with eva := s.eva.grantWaiting s.now }) else s

/-! ## Latched flags (R478) -/

/-- An occurrence: set, count and generation one more. -/
def LFlag.occur (f : LFlag) : LFlag := { set := true, count := f.count + 1, gen := f.gen + 1 }

/-- An occurrence of flag `k` of Table 16.11. -/
def occur (k : Nat) (s : State) : State :=
  { s with flags := s.flags.set k (s.flags.getD k ⟨false, 0, 0⟩).occur }

/-- Raises an event together with an occurrence of a latched flag. -/
def raiseFlag (k : Nat) (code : BitVec 16) (args : List (BitVec 32)) (s : State) : State :=
  occur k (raise code args s)

/-! ## Commits to the backup domain (R375) -/

/-- A commit request behind those raised before it. -/
def request (c : Commit) (s : State) : State := { s with bkd := { s.bkd with commits := s.bkd.commits ++ [c] } }

/-- Sets the FAULT_N latch through one commit of its group (R520). -/
def setFault (s : State) : State := request (.faultLatch true) s

/-- The ledger as the core last staged it, else as the BKD holds it. -/
def stagedLedger : List Commit → Ledger → Ledger
  | [], l => l
  | .ledger l' :: cs, _ => stagedLedger cs l'
  | _ :: cs, l => stagedLedger cs l

/-- The latest ledger, staged or held. -/
def State.ledger (s : State) : Ledger := stagedLedger s.bkd.commits s.bkd.ledger

/-- Writes the ledger through one commit (R151). -/
def editLedger (f : Ledger → Ledger) (s : State) : State := request (.ledger (f s.ledger)) s

/-! ## The ledger's words (Table 5.6) -/

/-- Word 0. -/
def Ledger.word0 (l : Ledger) : BitVec 32 :=
  (1 : BitVec 4) ++ BitVec.ofBool l.startActive ++ BitVec.ofBool l.basalt ++ l.failCount ++ l.stepReached ++ l.stepFailed ++
    l.failReason ++ l.resetCause ++ (0 : BitVec 5)

/-- Word 1. -/
def Ledger.word1 (l : Ledger) : BitVec 32 := l.altMask ++ l.degradedMask ++ (0 : BitVec 4)

/-- Word 2 with ledger_crc: CRC-8 over words 0 to 2 with the field taken as 0. -/
def Ledger.word2 (l : Ledger) : BitVec 32 :=
  l.slotFailMask ++ crc8 (be 4 l.word0 ++ be 4 l.word1 ++ be 3 l.slotFailMask ++ [0])

/-- The ledger as its three words spell it (Table 5.6): none where ledger_crc is not that of the words, or ledger_format is not 0x1. -/
def Ledger.ofWords (w0 w1 w2 : BitVec 32) : Option Ledger :=
  if crc8 (be 4 w0 ++ be 4 w1 ++ be 3 (w2.extractLsb' 8 24) ++ [0]) = w2.extractLsb' 0 8 && w0.extractLsb' 28 4 == 1 then
    some { startActive := w0.getLsbD 27, basalt := w0.getLsbD 26, failCount := w0.extractLsb' 24 2, stepReached := w0.extractLsb' 20 4,
           stepFailed := w0.extractLsb' 16 4, failReason := w0.extractLsb' 8 8, resetCause := w0.extractLsb' 5 3,
           altMask := w1.extractLsb' 18 14, degradedMask := w1.extractLsb' 4 14, slotFailMask := w2.extractLsb' 8 24 }
  else none

/-- The three words as twelve bytes. -/
def Ledger.bytes (l : Ledger) : List Byte := be 4 l.word0 ++ be 4 l.word1 ++ be 4 l.word2

/-- A state's function when a condition holds. -/
def when (b : Bool) (f : State → State) (s : State) : State := if b then f s else s

end Sys2Proof.Machine
end

