-- ==== Sys2Proof/Machine/Flags.lean ====
section
/-!
DEFINITION. The status word (Table 16.8), the latched flags (Table 16.11) with their clearing (R479), and the holding conditions
of the FAULT_N latch (R521).
-/
namespace Sys2Proof.Machine

/-! ## Latched flags by number (Table 16.11) -/

def flagStart : Nat := 0
def flagStrap : Nat := 1
def flagSave : Nat := 2
def flagPulse : Nat := 3
def flagPowerfail : Nat := 4
def flagEvent : Nat := 5
def flagAlarm : Nat := 6
def flagLbf : Nat := 7
def flagPlausibility : Nat := 8
def flagSensor : Nat := 9
def flagPipe : Nat := 10
def flagPath : Nat := 11
def flagDrive : Nat := 12
def flagSlot : Nat := 13
def flagRefLost : Nat := 14
def flagWakeFail : Nat := 15

/-- The bits of a list of truth values, the first of them bit 0. -/
def bitsOf (w : Nat) (bs : List Bool) : BitVec w := BitVec.ofNat w (bs.foldr (fun b n => n * 2 + b.toNat) 0)

/-- latched_mask (Table 16.15). -/
def latchedMask (fs : List LFlag) : BitVec 16 := bitsOf 16 (fs.map LFlag.set)

/-- A slot that is retired (Table 7.8). -/
def Slot.retired (x : Slot) : Bool := x.state == 1 || x.state == 2

/-- slot_retired_mask (Table 7.11). -/
def Tiu.retiredMask (t : Tiu) : BitVec 24 := bitsOf 24 (t.slots.map Slot.retired)

/-- A sensor in use: TS1 and TS2 always, TS3 and TS4 when loop B exists (Table 4.17). -/
def State.sensorUsed (s : State) (n : Nat) : Bool := n < 2 || (n < 4 && s.conf.loopB.isSome)

/-- A used path is in a state. -/
def State.somePath (s : State) (f : PathState → Bool) : Bool :=
  Idx3.all.any (fun p => s.pathUsed p && f (s.fe.paths.get p).state)

/-- A pipe that CFG_B provides is in a state. -/
def State.somePipe (s : State) (f : PipeState → Bool) : Bool :=
  Idx3.all.any (fun p => !(s.pipePaths p).isEmpty && f (s.fe.pipes.get p).state)

/-- A sensor in use is NONE, SUSPECT or FAULT. -/
def State.sensorBad (s : State) : Bool :=
  (List.range 4).any (fun n => s.sensorUsed n &&
    (match (s.temp.sensors.getD n Sensor.reset).state with
     | .none | .suspect | .fault => true
     | .notUsed | .ok => false))

/-- A strap was substituted in the present start (R95). -/
def State.strapSub (s : State) : Bool :=
  s.straps.levelSub.toList.any id || s.straps.codeSub.any id

/-- The status word of Table 16.8 from the present values. -/
def statusWord (s : State) : BitVec 16 :=
  bitsOf 16
    [ false,
      s.ledger.degradedMask != 0 || s.strapSub,
      s.ee.loopA.reverse,
      (s.fe.pipes.get s.conf.loopA.pipe).cutoff,
      s.phy.powerFail,
      latchedMask s.flags != 0,
      s.bkd.time.lbf,
      s.bkd.time.osf,
      s.sensorBad,
      s.somePipe (· == .invalid),
      s.somePipe (· == .degraded),
      s.somePath (fun x => x == .invalid || x == .noSlots),
      s.somePath (· == .held),
      s.tiu.retiredMask != 0,
      s.clk.absent,
      s.bkd.faultLatch ]

/-- The status word of a Basalt record: bits 15, 14, 7 and 6 only (R472). -/
def basaltStatus (w : BitVec 16) : BitVec 16 := w &&& 0xC0C0

/-- Bytes of the status part (Table 16.15). -/
def statusPart (status : BitVec 16) (fs : List LFlag) : List Byte :=
  be 2 status ++ be 2 (latchedMask fs) ++ fs.flatMap (fun f => be 2 f.count ++ [f.gen, 0])

/-! ## CLEAR (R479) -/

/-- One flag of a CLEAR: cleared when its generation matches. LBF clears with its flag (Table 13.5), which the backup domain does on a commit
edge (R16, log entry 86). -/
def clearFlag (k : Nat) (gen : Byte) (s : State) : State × Bool :=
  let f := s.flags.getD k ⟨false, 0, 0⟩
  if f.set && f.gen == gen then
    let s := { s with flags := s.flags.set k { f with set := false } }
    let s := raise 0x0804 (arg (f.gen.toNat * 256 + k)) s
    (if k = flagLbf then request .lbfClear s else s, true)
  else (s, false)

/-- The flags of a mask from bit 0 upward, each with its generation byte; the mask of those cleared. -/
def clearFlags (mask : BitVec 16) : List Nat → List Byte → State → State × Nat
  | [], _, s => (s, 0)
  | k :: ks, gens, s =>
    if mask.getLsbD k then
      match gens with
      | [] => (s, 0)
      | g :: gs =>
        let r := clearFlag k g s
        let t := clearFlags mask ks gs r.1
        (t.1, t.2 + (if r.2 then 2 ^ k else 0))
    else clearFlags mask ks gens s

/-! ## FAULT_N (R519 to R521) -/

/-- A condition that holds the FAULT_N latch set stands (R521); after an exit from Basalt mode the release waits for a successful start
(R523). -/
def State.faultHeld (s : State) : Bool :=
  s.start.owed || s.ledger.failCount != 0 || s.ledger.basalt || s.power.fail.isSome || s.clk.absent ||
  s.somePath (· == .noSlots) || s.seq.driveLast || s.strapSub || s.temp.mismatch || s.save.degraded

/-- The release of the latch with no holding condition, one commit (R521). -/
def releaseFault (s : State) : State := if s.faultHeld then s else request (.faultLatch false) s

end Sys2Proof.Machine
end

