-- ==== Sys2Proof/Machine/Calendar.lean ====
section
/-!
DEFINITION. The calendar of the backup domain (R369, R377): leap years, weekdays, counting by a second, and the alarm instants
between two times (R385).
-/
namespace Sys2Proof.Machine

/-- A year whose two digits are divisible by 4 is a leap year, 00 included (R369). -/
def leap (y : Nat) : Bool := y % 4 == 0

/-- Days of a month of a year. -/
def daysIn (y m : Nat) : Nat :=
  if m = 2 then (if leap y then 29 else 28)
  else if m = 4 || m = 6 || m = 9 || m = 11 then 30 else 31

/-- Days from 2000-01-01 to the first of a month. -/
def daysTo (y m : Nat) : Nat :=
  y * 365 + (y + 3) / 4 + ((List.range (m - 1)).map (fun k => daysIn y (k + 1))).sum

/-- Days from 2000-01-01 to a calendar date. -/
def Cal.day (c : Cal) : Nat := daysTo (ofBcd c.year) (ofBcd c.month) + (ofBcd c.date - 1)

/-- Seconds since the beginning of the date. -/
def Cal.tod (c : Cal) : Nat := ofBcd c.hour * 3600 + ofBcd c.min * 60 + ofBcd c.sec

/-- Seconds since 2000-01-01 00:00:00. -/
def Cal.secs (c : Cal) : Nat := c.day * 86400 + c.tod

/-- The weekday, 1 Monday to 7 Sunday; 2000-01-01 is a Saturday. -/
def Cal.weekday (c : Cal) : Byte := BitVec.ofNat 8 ((c.day + 5) % 7 + 1)

/-- The check of a time group (R377): valid BCD in range, and a date that exists. -/
def Cal.ok (c : Cal) : Bool :=
  bcdOk c.sec && bcdOk c.min && bcdOk c.hour && bcdOk c.date && bcdOk c.month && bcdOk c.year &&
  decide (ofBcd c.sec < 60) && decide (ofBcd c.min < 60) && decide (ofBcd c.hour < 24) &&
  decide (1 ≤ ofBcd c.month) && decide (ofBcd c.month ≤ 12) && decide (1 ≤ ofBcd c.date) &&
  decide (ofBcd c.date ≤ daysIn (ofBcd c.year) (ofBcd c.month))

/-- The next date; after 99-12-31 comes 00-01-01 (R369). -/
def Cal.nextDay (c : Cal) : Cal :=
  let y := ofBcd c.year
  let m := ofBcd c.month
  let d := ofBcd c.date
  if d < daysIn y m then { c with date := toBcd (d + 1) }
  else if m < 12 then { c with date := 1, month := toBcd (m + 1) }
  else { c with date := 1, month := 1, year := if y < 99 then toBcd (y + 1) else 0 }

/-- The date before. -/
def Cal.prevDay (c : Cal) : Cal :=
  let y := ofBcd c.year
  let m := ofBcd c.month
  let d := ofBcd c.date
  if 1 < d then { c with date := toBcd (d - 1) }
  else if 1 < m then { c with date := toBcd (daysIn y (m - 1)), month := toBcd (m - 1) }
  else { c with date := 0x31, month := 0x12, year := if 0 < y then toBcd (y - 1) else 0x99 }

/-- One second later (R369). -/
def Cal.next (c : Cal) : Cal :=
  let s := ofBcd c.sec
  let m := ofBcd c.min
  let h := ofBcd c.hour
  if s < 59 then { c with sec := toBcd (s + 1) }
  else if m < 59 then { c with sec := 0, min := toBcd (m + 1) }
  else if h < 23 then { c with sec := 0, min := 0, hour := toBcd (h + 1) }
  else { c.nextDay with sec := 0, min := 0, hour := 0 }

/-- The date of an instant as last_fired_bcd holds it. -/
def Cal.dateKey (c : Cal) : Byte × Byte × Byte := (c.year, c.month, c.date)

/-- The instant of an alarm on a date. -/
def Cal.atAlarm (c : Cal) (a : AlarmSet) : Cal := { c with hour := a.hour, min := a.min, sec := a.sec }

/-- The time is an alarm instant. -/
def Cal.isAlarm (c : Cal) (a : AlarmSet) : Bool := c.hour == a.hour && c.min == a.min && c.sec == a.sec

/-- The latest alarm instant in the open interval from an old to a new time, when there is one (R385). -/
def lateInstant (a : AlarmSet) (old new : Cal) : Option Cal :=
  let today := new.atAlarm a
  let c := if today.secs < new.secs then today else (new.prevDay).atAlarm a
  if old.secs < c.secs && c.secs < new.secs then some c else none

/-- The check of an alarm setting: a mode of Table 4.19 and a BCD time of day. -/
def AlarmSet.ok (a : AlarmSet) : Bool :=
  decide (a.mode.toNat ≤ 2) && bcdOk a.hour && bcdOk a.min && bcdOk a.sec &&
  decide (ofBcd a.hour < 24) && decide (ofBcd a.min < 60) && decide (ofBcd a.sec < 60)

end Sys2Proof.Machine
end

