-- ==== Sys2Proof/Machine/Reset.lean ====
section
/-!
DEFINITION. The reach of the resets (Table 5.1): what the core domain, the link interface domain with the bypass, the Flint banks
and the backup domain lose, and the exit from OFF (R388, R404).
-/
namespace Sys2Proof.Machine

/-- What a pipe keeps in the Flint banks across a core reset: the open hour of cutoff changes (R540). -/
def FePipe.cleared (p : FePipe) : FePipe := { FePipe.reset with hourAt := p.hourAt, hourCount := p.hourCount, hourClosed := p.hourClosed }

/-- EE across a core reset: the registers, residues, begin_prev and open hours stand in the Flint banks (R393, R540). -/
def Ee.cleared (e : Ee) : Ee :=
  { e with padA := { e.padA with phase := .idle }, padB := { e.padB with phase := .idle }, lastIntS := none }

/-- EVA across a core reset: the queue stands in the Flint banks (R501), the counter in the BKD (R34); events of the backup and
link domains still wait to reach the core (R32). -/
def Eva.cleared (v : Eva) : Eva := { v with logReady := false, withhold := false, held := [], excess := 0 }

/-- The slots across a core reset: the calibration records stand in the Flint banks (R220, R393), the retirements are cleared. The mask of those
at S10 is the ledger's (Table 7.11). -/
def Tiu.cleared (t : Tiu) : Tiu := { Tiu.reset with s10Mask := t.s10Mask, slots := t.slots.map (fun x => { Slot.reset with cal := x.cal }) }

/-- MEMC across a core reset: the part and its contents stay; discovery and the requests are lost. -/
def Mem.cleared (m : Mem) : Mem :=
  { Mem.reset with present := m.present, sfdp := m.sfdp, ident := m.ident, fitted := m.fitted, bad := m.bad, cells := m.cells,
                   asleep := m.asleep }

/-- The power controller across a core reset: the supplies, RESET_N and the wake requests held by the BKD stay (R405). -/
def Power.cleared (p : Power) : Power :=
  { Power.reset with vbatGood := p.vbatGood, vbat27 := p.vbat27, pwron := p.pwron, resetLow := p.resetLow, heldTick := p.heldTick,
                     heldMgmt := p.heldMgmt, heldWake := p.heldWake, heldMatcher := p.heldMatcher }

/-- The management core across a reset that clears it: the record of its watchdog resets outlives it, so that R496 can count and log them
(log entry 85). -/
def Hmc.cleared (h : Hmc) : Hmc := { Hmc.reset with dogs := h.dogs, dogLog := h.dogLog }

/-- The management core in DEEP SLEEP and OFF, where its watchdog holds its count (R496). -/
def Hmc.held (h : Hmc) : Hmc := { h.cleared with dog := h.dog }

/-- The memory behind a session that a reset closes (R511). -/
def State.closedMem (s : State) : Mem :=
  match s.img with
  | some i => s.mem.closeImage i
  | none => s.mem

/-- A staging group of R375, whose commit outlives a core reset (R133). The power controller's entry, the freeze request and the snapshot
strobe are none of them. -/
def Commit.staged : Commit → Bool
  | .entry _ => false
  | .freeze => false
  | .strobe => false
  | .time _ | .alarm _ _ | .alarmClear | .compensation _ | .ledger _ | .strapCopy _ | .address _ | .alive _ | .claim _
  | .faultLatch _ | .lbfClear | .eventEdge _ => true

/-- The backup domain across a core reset: a read session ends (R373); the requested staging groups stay with the BKD (R133),
and an entry still to come goes with the power controller that asked for it. -/
def Bkd.cleared (b : Bkd) : Bkd := { b with shadow := none, readers := 0, strobe := false, commits := b.commits.filter Commit.staged }

/-- The core domain with the management core cleared: the device waits for a start of the given cause. The saves that a moment or an alarm
called for while the BKD ran are still owed (R348, R387; log entry 85). -/
def coreClear (cause : BitVec 3) (s : State) : State :=
  { s with
    bkd := s.bkd.cleared,
    fuse := { s.fuse with shadow := List.replicate 25 0 },
    mem := s.closedMem.cleared,
    save := { SaveArea.reset with due := s.save.due, dueAfterSnap := s.save.dueAfterSnap, lowArmed := s.save.lowArmed },
    log := { next := 0, any := false, failed := 0, sector := none },
    eva := s.eva.cleared,
    clk := Clk.reset,
    start := { Start.reset with cause := cause, owed := s.start.owed },
    prq := Prq.reset,
    power := s.power.cleared,
    afe := .const AfePath.reset,
    tiu := s.tiu.cleared,
    seq := Seq.reset,
    fe := { paths := .const FePath.reset, pipes := s.fe.pipes.map FePipe.cleared },
    ag := Ag.reset,
    temp := Temp.reset,
    ee := s.ee.cleared,
    hmc := if s.power.state = .off then s.hmc.held else s.hmc.cleared,
    img := none,
    snap := Snapshot.reset,
    lnk := { Lnk.reset with sentLu := s.lnk.sentLu, sentLd := s.lnk.sentLd },
    head := Head.reset }

/-- What stands in the Flint banks beside what a start reads anew is lost: registers, residues and begin_prev, the pulse pending counts, the
event queue (R503) and the open hours (R540). -/
def loseBanks (s : State) : State :=
  { s with
    eva := { s.eva with queue := [], dropped := 0 },
    fe := { s.fe with pipes := s.fe.pipes.map (fun p => { p with hourAt := none, hourCount := 0, hourClosed := [] }) },
    ee := Ee.reset }

/-- The Flint banks cleared: registers, calibration records, event queue, straps and configuration in use, open hours (R393). -/
def flintClear (s : State) : State :=
  loseBanks { s with
    fuse := { s.fuse with uid := 0, claim := .unclaimed },
    straps := Straps.reset, conf := Conf.reset,
    banks := { Banks.reset with fwFirst := s.banks.fwFirst },
    tiu := { s.tiu with slots := s.tiu.slots.map (fun x => { x with cal := Slot.reset.cal }) } }

/-- The link interface domain cleared and the bypass closed (Table 15.4): a closed pass element stays so for the 50 µs of Table 15.6.
VLINK3 goes on from VHOLD (R61). A removal is an event that waits for the core (R32). -/
def linkClear (s : State) : State :=
  { s with
    phy := if s.phy.passClosed then { Phy.reset with ins := .removing, passClosed := true, holdUp := s.phy.holdUp }
           else { Phy.reset with holdUp := s.phy.holdUp },
    eva := if s.phy.ins = .inserted then s.eva.postpone ⟨0x0801, arg 0⟩ else s.eva }

/-- VCORE brown-out, RESET_N, ordered restart, watchdog escalation: core and link cleared, Flint banks checked at S11. -/
def resetCore (cause : BitVec 3) (s : State) : State := coreClear cause (linkClear s)

/-- Main power-on: core, link and Flint banks cleared. -/
def resetMain (s : State) : State := flintClear (coreClear 1 (linkClear s))

/-- Backup power-on: everything but the fuses and the external memory (Table 5.1), the latched flags with the backup domain (R131, log
entry 45). -/
def resetBackup (s : State) : State :=
  let s := flintClear (coreClear 0 (linkClear s))
  { s with bkd := { Bkd.reset with alive := false }, start := { s.start with owed := false }, tiu := { s.tiu with s10Mask := 0 },
           eva := Eva.reset, save := SaveArea.reset, hmc := Hmc.reset, flags := List.replicate 16 ⟨false, 0, 0⟩,
           power := { s.power with heldTick := false, heldMgmt := none, heldWake := false, heldMatcher := false, pwron := false } }

/-- The device is in Basalt mode, which it leaves only through the exits of Table 5.8: awake, in OFF, without VBAT, or in a start that returns
to it (R157, R163). -/
def State.basaltMode (s : State) : Bool := s.inBasalt || s.bkd.ledger.basalt

/-- What a command shows of VBAT against 2.70 V. -/
def seeVbat (vbat27 : Bool) (s : State) : State := { s with power := { s.power with vbat27 := vbat27 } }

/-- A wake source in OFF while VBAT is at or above 2.70 V: PWRON rises, and the start that follows has the reach of a main power-on (R388,
R404). -/
def offWake (s : State) : State :=
  if s.power.state == .off && s.power.trans == .none && s.power.vbatGood && s.power.vbat27 then
    let t := resetMain s
    { t with power := { t.power with pwron := true } }
  else s

end Sys2Proof.Machine
end

