-- ==== Sys2Proof/Machine/Bkd.lean ====
section
/-!
DEFINITION. The backup domain (chapter 13): counting, alarms, commits, read sessions, the LF source, and the WAKE and EVENT inputs.
-/
namespace Sys2Proof.Machine

/-! ## Alarms -/

/-- The straps of the present start have been read: outside a start S03 has passed. -/
def State.strapsRead (s : State) : Bool :=
  match s.start.phase with
  | .running => true
  | .basalt => true
  | .factory => false
  | .step n => decide (4 ≤ n)
  | .inReset => false
  | .delay => false

/-- The role of the device as a whole: that of the straps in use, and until a start has read them that of the strap copy (log entry
61). -/
def State.deviceRole (s : State) : Role :=
  if s.strapsRead then s.role
  else
    match s.bkd.strapCopy with
    | some c => roleOf (c.codes.head?)
    | none => s.role

/-- An alarm at an instant may fire (R384, R386): a mode is set, mode 2 has not fired on that date, and OSF does not block it. -/
def State.alarmFires (s : State) (c : Cal) : Bool :=
  (s.bkd.alarm.mode == 1 || (s.bkd.alarm.mode == 2 && s.bkd.lastFired != c.dateKey)) &&
  (!s.bkd.time.osf || s.deviceRole == .standAlone)

/-- The alarm event has been granted: no alarm event waits. -/
def Eva.alarmGranted (v : Eva) : Bool := v.waiting.all (fun e => e.code != 0x0104)

/-- The management core commits the alarm-clear group once the alarm's event is granted (R387). -/
def serveAlarm (s : State) : State :=
  if s.awake && s.hmc.on && s.bkd.time.alarmFlag && s.eva.alarmGranted && !s.bkd.commits.contains .alarmClear then
    request .alarmClear s
  else s

/-- The alarm fires for an instant (R384, R387, R390). -/
def fireAlarm (c : Cal) (late : Bool) (s : State) : State :=
  let basalt := s.basaltMode
  let s := { s with bkd := { s.bkd with time := { s.bkd.time with alarmFlag := true, alarmLate := late }, lastFired := c.dateKey } }
  let s := raiseFlag flagAlarm 0x0104
    (arg (c.hour.toNat * 2 ^ 24 + c.min.toNat * 2 ^ 16 + c.sec.toNat * 2 ^ 8 + late.toNat)) s
  if basalt then s
  else serveAlarm (offWake { s with save := { s.save with dueAfterSnap := s.save.dueAfterSnap + 1 } })

/-! ## Commits (R375, R376) -/

/-- The argument words of event 0x0102. -/
def timeWords (o n : Cal) : List (BitVec 32) :=
  [ o.year ++ o.month ++ o.date ++ o.hour, o.min ++ o.sec ++ n.year ++ n.month, n.date ++ n.hour ++ n.min ++ n.sec ]

/-- A time-group commit: the calendar, OSF and the alarm adjustments (R376, R385). -/
def commitTime (c : Cal) (s : State) : State :=
  let old := s.bkd.time.cal
  let osf := s.bkd.time.osf
  let s := { s with bkd := { s.bkd with time := { s.bkd.time with cal := c, weekday := c.weekday, subsec := 0, osf := false } } }
  let s := raise 0x0102 (timeWords old c) s
  let s :=
    match lateInstant s.bkd.alarm old c with
    | some i => if !osf && s.alarmFires i then fireAlarm i true s else s
    | none => s
  if c.isAlarm s.bkd.alarm && s.alarmFires c then fireAlarm c false s else s

/-- Edge E: the core clocks, the reference and the RC stop; for OFF PWRON falls, the core domain is switched off and the
brown-out threshold is disarmed (Table 14.4, R415). DEEP SLEEP and OFF lose the code SRAM (R393); the rest of what DEEP SLEEP loses is
cleared when it is left. -/
def enterEdge (p : PState) (s : State) : State :=
  let s := { s with clk := { s.clk with core := false, onRef := false, refOn := false, declared := false, presence := ⟨0, 0, 0⟩ },
                    power := { s.power with trans := .lossWindow p, idleTimer := false },
                    banks := if p = .sleep then s.banks else { s.banks with code := [] },
                    bkd := { s.bkd with shadow := none, readers := 0, commits := s.bkd.commits.filter (· != .freeze) } }
  if p = .off then { s with power := { s.power with pwron := false }, prq := { s.prq with bor := none, vcore := 0, vdrv := false } }
  else s

/-- A freeze edge: the live time registers are copied into the shadows, for the readers that wait (Table 13.3 step 2). -/
def Bkd.freeze (b : Bkd) : Bkd := if b.readers = 0 then b else { b with shadow := some b.time, sessionAge := 0 }

/-- A staging group taken over on its commit edge; the freeze request takes its freeze edge. -/
def applyCommit (c : Commit) (s : State) : State :=
  match c with
  | .time t => commitTime t s
  | .alarm a src => { s with bkd := { s.bkd with alarm := a, alarmSrc := src } }
  | .alarmClear => { s with bkd := { s.bkd with time := { s.bkd.time with alarmFlag := false, alarmLate := false } } }
  | .compensation ppb => { s with bkd := { s.bkd with compPpb := BitVec.ofInt 24 ppb } }
  | .ledger l => { s with bkd := { s.bkd with ledger := l } }
  | .strapCopy c => { s with bkd := { s.bkd with strapCopy := some c } }
  | .address a => { s with bkd := { s.bkd with address := some a } }
  | .alive t => { s with bkd := { s.bkd with aliveS := some t } }
  | .claim h => { s with bkd := { s.bkd with claimRec := h } }
  | .faultLatch b => { s with bkd := { s.bkd with faultLatch := b } }
  | .lbfClear => { s with bkd := { s.bkd with time := { s.bkd.time with lbf := false } } }
  | .eventEdge k => { s with bkd := { s.bkd with eventEdge := k } }
  | .freeze => { s with bkd := s.bkd.freeze }
  | .strobe => { s with bkd := { s.bkd with strobe := true } }
  | .entry p => enterEdge p s

/-- All requested commits carried out in request order: what has happened by the time the start controller goes on (R133, R151). -/
def drain : List Commit → State → State
  | [], s => s
  | c :: cs, s => drain cs (applyCommit c s)

/-- Every commit requested so far is complete. -/
def settle (s : State) : State := drain s.bkd.commits { s with bkd := { s.bkd with commits := [] } }

/-- A commit raised and completed within the step under way. -/
def commitNow (c : Commit) (s : State) : State := settle (request c s)

/-- The ledger written by the start controller (R151). -/
def writeLedger (f : Ledger → Ledger) (s : State) : State :=
  let s := settle s
  commitNow (.ledger (f s.bkd.ledger)) s

/-- The oldest request takes its edge. -/
def takeRequest (s : State) : State :=
  match s.bkd.commits with
  | c :: cs => applyCommit c { s with bkd := { s.bkd with commits := cs } }
  | [] => s

/-- The request in flight is a freeze request. -/
def Bkd.freezeNext (b : Bkd) : Bool := b.commits.head? == some .freeze

/-- BKD_COMMIT: the oldest requested group is taken over on its edge; a freeze request raised before it goes first (R375). -/
def execBkdCommit (s : State) : Host.Outcome State Fault Refusal :=
  .next (if s.bkd.alive && !s.bkd.freezeNext then takeRequest s else s)

/-! ## Counting -/

/-- One RTC second's end and the next second's length (R379, R380). -/
def nextLength (comp : BitVec 24) (acc : BitVec 32) (rc : Bool) : BitVec 17 × BitVec 32 :=
  if rc then (32768, acc)
  else
    let a := acc.toInt + comp.toInt * 1000
    if a ≤ -30517578 then (32767, BitVec.ofInt 32 (a + 30517578))
    else if 30517578 ≤ a then (32769, BitVec.ofInt 32 (a - 30517578))
    else (32768, BitVec.ofInt 32 a)

/-- The request in flight is a time group. -/
def Bkd.timeNext (b : Bkd) : Bool :=
  match b.commits.head? with
  | some (.time _) => true
  | _ => false

/-- The end of an RTC second: the calendar advances, the next second takes its length, and an alarm instant entered by counting fires,
unless the edge's commit overwrites the time (R391). -/
def rollOver (overwritten : Bool) (s : State) : State :=
  let t := s.bkd.time
  let c := t.cal.next
  let n := nextLength s.bkd.compPpb s.bkd.accPs t.lfIsRc
  let s1 := { s with bkd := { s.bkd with time := { t with cal := c, weekday := c.weekday, subsec := 0 },
                                         lenLf := n.1, accPs := n.2 } }
  let s2 := if t.cal.year = 0x99 && c.year = 0 then raise 0x0103 (arg 0) s1 else s1
  if !overwritten && c.isAlarm s2.bkd.alarm && s2.alarmFires c then fireAlarm c false s2 else s2

/-- The last edge of an RTC second is also the edge of the request in flight: a free value (log entry 82). -/
def State.edgeShared (s : State) : Bool := !s.bkd.commits.isEmpty && Config.sharesEdge s.free

/-- RTC_SECOND: the last LF edge of an RTC second. When it is also the edge of the request in flight, the counting comes first, and an
alarm instant that a time commit overwrites does not fire by counting (R375, R391). -/
def execRtcSecond (s : State) (vbat27 : Bool := true) : Host.Outcome State Fault Refusal :=
  .next (if s.bkd.alive then
    when s.edgeShared takeRequest (rollOver (s.edgeShared && s.bkd.timeNext) (seeVbat vbat27 s.spend))
  else s)

/-- DEVICE_SECOND: device_s advances by one (R370) and the LBF check runs (Table 13.5). -/
def execDeviceSecond (vbkLow : Bool) (vbkMv : BitVec 16) (s : State) : Host.Outcome State Fault Refusal :=
  .next (if s.bkd.alive then
    let b := s.bkd
    let n : BitVec 2 := if vbkLow then (if b.lbfBelow = 0 then 1 else 2) else 0
    let sets := n == 2 && !b.time.lbf
    let s := { s with bkd := { b with devDiv := 0, lbfBelow := n,
                                      time := { b.time with deviceS := b.time.deviceS + 1, lbf := b.time.lbf || sets } } }
    when sets (raiseFlag flagLbf 0x0105 (arg vbkMv.toNat)) s
  else s)

/-! ## Read sessions (R371 to R374) -/

/-- A freeze request rides the commit handshake (R371): one while no session is open and none is on its way. -/
def Bkd.askFreeze (b : Bkd) : Bkd :=
  if b.shadow.isSome || b.commits.contains .freeze then b else { b with commits := b.commits ++ [.freeze] }

/-- A reader in the core asks for a session, or joins the open one (R373). -/
def openSession (s : State) : State :=
  { s with bkd := { s.bkd with readers := s.bkd.readers + 1 }.askFreeze }

/-- A reader releases the session; it ends with its last reader. -/
def releaseSession (s : State) : State :=
  { s with bkd := { s.bkd with readers := s.bkd.readers - 1, shadow := if s.bkd.readers ≤ 1 then none else s.bkd.shadow } }

/-- A reader waits for valid shadows: after the session's limit it opens a new one, and the requests before its freeze take their edges
first (R373, R375). -/
def awaitShadows (s : State) : State :=
  if s.bkd.shadow.isSome then s else settle { s with bkd := { s.bkd with readers := max 1 s.bkd.readers }.askFreeze }

/-- The snapshot strobe of a completed cycle, one at a time (R16, R375). -/
def strobe (s : State) : State := if s.bkd.commits.contains .strobe then s else request .strobe s

/-- The frozen fields of the open session. -/
def State.frozen (s : State) : TimeRegs := s.bkd.shadow.getD s.bkd.time

/-- FREEZE_EDGE: the freeze request in flight copies the live time registers into the shadows. -/
def execFreezeEdge (s : State) : Host.Outcome State Fault Refusal :=
  .next (if s.bkd.alive && s.bkd.freezeNext then takeRequest s else s)

/-- SESSION_LIMIT: the open session ends and its shadows are no longer valid. -/
def execSessionLimit (s : State) : Host.Outcome State Fault Refusal :=
  .next (if s.bkd.shadow.isSome then { s with bkd := { s.bkd with shadow := none, readers := 0 } } else s)

/-! ## The LF source (R363) -/

/-- CRYSTAL_GOOD: the LF source switches onto the crystal. -/
def execCrystalGood (s : State) : Host.Outcome State Fault Refusal :=
  .next (if s.bkd.alive && s.bkd.time.lfIsRc then
    raise 0x0101 (arg 0) { s with bkd := { s.bkd with time := { s.bkd.time with lfIsRc := false } } }
  else s)

/-- CRYSTAL_STOPPED: the LF source switches to the backup RC and OSF is set. -/
def execCrystalStopped (s : State) : Host.Outcome State Fault Refusal :=
  .next (if s.bkd.alive && !s.bkd.time.lfIsRc then
    raise 0x0101 (arg 1) { s with bkd := { s.bkd with time := { s.bkd.time with lfIsRc := true, osf := true } } }
  else s)

/-! ## WAKE and EVENT (R389, R405, R406) -/

/-- The device is in SLEEP or deeper, or on its way in or out, so that a wake source is held. -/
def State.holdsWake (s : State) : Bool := !s.awake || s.power.trans != .none

/-- WAKE_INPUT: WAKE high raises a held wake request, clears a park, and in OFF raises PWRON while VBAT is at or above 2.70 V (Table 14.7,
R388). -/
def execWakeInput (s : State) (vbat27 : Bool := true) : Host.Outcome State Fault Refusal :=
  .next (if s.bkd.alive && s.holdsWake then
    let s := seeVbat vbat27 s
    offWake { s with power := { s.power with heldWake := true, parked := none } }
  else s)

/-- The EVENT edge setting selects an edge (Table 4.19). -/
def selectsEdge (setting : BitVec 2) (rising : Bool) : Bool :=
  setting == 3 || (setting == 1 && rising) || (setting == 2 && !rising)

/-- The EVENT filter is between E and E + 4 of an entry (R406). -/
def State.inLossWindow (s : State) : Bool :=
  match s.power.trans with
  | .lossWindow _ => true
  | _ => false

/-- EVENT_EDGE: a filtered edge against the reference level sets the EVENT latch when its polarity is selected; none does in the
loss window (R406). The core takes the latch at once while it is awake and enters no lower state; otherwise the latch stands as a wake
source (R405, R408). -/
def execEventEdge (rising : Bool) (s : State) : Host.Outcome State Fault Refusal :=
  .next (if !s.bkd.alive || s.inLossWindow || s.bkd.eventLevel == rising then s
  else
    let s := { s with bkd := { s.bkd with eventLevel := rising } }
    if selectsEdge s.bkd.eventEdge rising && !s.bkd.eventLatch then
      raiseFlag flagEvent 0x0106 (arg rising.toNat) { s with bkd := { s.bkd with eventLatch := s.holdsWake } }
    else s)

/-- What follows when the core runs again: waiting events are granted in the order of R31, the EVENT latch is taken, and an
alarm whose event is granted is cleared (R32, R387). -/
def afterWake (s : State) : State :=
  serveAlarm (grantWaiting { s with bkd := { s.bkd with eventLatch := s.bkd.eventLatch && !s.awake } })

/-! ## Supply of the backup domain -/

/-- BACKUP_POWER_ON: VBK falls below 1.50 V, so that all is lost; or it recovers, so that the domain leaves its power-on reset on
the backup RC (R128, R363) and drives PWRON by VBAT (R129). -/
def execBackupPowerOn (recovers : Bool) (s : State) : Host.Outcome State Fault Refusal :=
  .next (if recovers then
    (if s.bkd.alive then s
     else { s with bkd := Bkd.reset, start := { s.start with cause := 0 }, power := { s.power with pwron := s.power.vbatGood } })
  else resetBackup s)

end Sys2Proof.Machine
end

