-- ==== Sys2Proof/Machine/Mica.lean ====
section
/-!
DEFINITION. The figures that a cycle is launched with: drive half-period (R169), Mica codes (R171), stamps (R191), slot groups and
sets (R206, R207), and stop windows (R211, R212).
-/
namespace Sys2Proof.Machine

/-! ## Drive and codes -/

/-- h_q: the drive half-period in grid units of 10.417 ns (R169). -/
def Conf.hq (c : Conf) : Nat := max 12 (min 96 (roundDiv 48000 c.freqKhz).toNat)

/-- f: the flip of path n's code Mn lies after chip f (R171, Table 6.2). -/
def Conf.flipChip (c : Conf) (p : Idx3) : Nat := c.burst / 2 + p.num - 2

/-- The first sign of code Mn: −1 for M2 only (Table 6.2); true is +1. -/
def firstSign (p : Idx3) : Bool := p != .two

/-- The chips of path n's code, true for +1: f of the first sign and N − f of the other (R171). -/
def Conf.chips (c : Conf) (p : Idx3) : List Bool :=
  List.replicate (c.flipChip p) (firstSign p) ++ List.replicate (c.burst - c.flipChip p) (!firstSign p)

/-- The pad's level in a grid unit of the burst, counted from the launch edge: a chip of sign +1 is high and then low, one of sign −1 low
and then high (R168). -/
def Conf.burstHigh (c : Conf) (p : Idx3) (q : Nat) : Bool :=
  ((c.chips p).getD (q / (2 * c.hq)) false) == decide (q / c.hq % 2 = 0)

/-- n_used: stamps per direction (R191). -/
def Conf.nUsed (c : Conf) (p : Idx3) : Nat := min c.stamps (2 * (c.burst - c.flipChip p) - 4)

/-! ## Slots -/

/-- Table 7.3: the slots of each path's group, as first slot and number. -/
def groupOf (code : Option (BitVec 3)) (p : Idx3) : Nat × Nat :=
  match code with
  | some 0 => (12 * (p.num - 1), if p = .three then 0 else 12)
  | some 2 => (12 * (p.num - 1), if p = .three then 0 else 12)
  | some 1 => (8 * (p.num - 1), 8)
  | some 3 => (8 * (p.num - 1), 8)
  | some 4 => (8 * (p.num - 1), 8)
  | _ => (0, if p = .one then 24 else 0)

/-- A slot by number. -/
def Tiu.slot (t : Tiu) (k : Nat) : Slot := t.slots.getD k Slot.reset

/-- A slot replaced. -/
def Tiu.setSlot (t : Tiu) (k : Nat) (x : Slot) : Tiu := { t with slots := t.slots.set k x }

/-- A slot that is not retired (R207). -/
def Tiu.good (t : Tiu) (k : Nat) : Bool := !(t.slot k).retired

/-- The good slots of a path's group, ascending. -/
def State.goodOf (s : State) (p : Idx3) : List Nat :=
  let g := groupOf (s.code 1) p
  ((List.range g.2).map (· + g.1)).filter s.tiu.good

/-- The elements at even places, and those at odd places. -/
def alternate {α : Type} : List α → List α × List α
  | [] => ([], [])
  | x :: xs => let r := alternate xs; (x :: r.2, r.1)

/-- Sets A and B of a list of good slots: of an odd number the last serves in neither (R207). -/
def setsAB (good : List Nat) : List Nat × List Nat := alternate (good.take (good.length / 2 * 2))

/-- n_eff of a path (R207). -/
def State.nEffOf (s : State) (p : Idx3) : Nat := min (s.conf.nUsed p) (setsAB (s.goodOf p)).2.length

/-- The set that serves a direction in a cycle of the given parity (R251). -/
def setFor (sets : List Nat × List Nat) (parity : Bool) (d : Dir) : List Nat :=
  if parity == (d == .up) then sets.2 else sets.1

/-- The paths in use whose group has fewer than four good slots (R209). -/
def State.lacksSlots (s : State) (p : Idx3) : Bool := s.pathUsed p && decide ((s.goodOf p).length < 4)

/-- The paths that SEQ fires: those in use, but for a path without slots (R209, R246). -/
def State.fires (s : State) (p : Idx3) : Bool :=
  s.pathUsed p && (s.fe.paths.get p).state != .noSlots && !s.lacksSlots p

/-- The highest-numbered good slots of the device, descending (R210, R235). -/
def Tiu.goodDown (t : Tiu) : List Nat := ((List.range 24).filter t.good).reverse

/-! ## Stop windows (Table 7.4, R212) -/

/-- t_rr_q. -/
def Conf.trrQ (c : Conf) : Nat := (c.burst + 2) * 2 * c.hq + 144

/-- limit_q: 900 µs. -/
def limitQ : Nat := 86400

/-- A quotient rounded up. -/
def ceilDiv (n d : Nat) : Nat := (n + d - 1) / d

/-- close_q in acquisition: delay + path_length_um / 800 m/s + (N + 4) T, rounded up to a grid unit. -/
def Conf.acqClose (c : Conf) (p : Idx3) : Nat :=
  let x := c.paths.get p
  min limitQ (ceilDiv (x.delayTicks * 25 + x.lengthUm * 24576) 204800 + (c.burst + 4) * 2 * c.hq)

/-- m_q. -/
def Conf.mQ (c : Conf) (miss : Nat) : Nat := 8 * c.hq * 2 ^ miss

/-- The stop window of a direction: [open_q, close_q). -/
def Conf.window (c : Conf) (p : Idx3) (w : WindowState) (miss nEff flipPred : Nat) : Nat × Nat :=
  match w with
  | .acquisition => (c.trrQ, c.acqClose p)
  | .tracked =>
    (max c.trrQ (flipPred - (2 * c.flipChip p + 1) * c.hq - c.mQ miss),
     min limitQ (flipPred + (3 + nEff) * c.hq + c.mQ miss))

/-- A path's two windows opened for a pair with `n` stamps per direction. -/
def Conf.openWindows (c : Conf) (p : Idx3) (n : Nat) (t : TiuPath) : TiuPath :=
  { t with nEff := n, failed := false,
           dirs := t.dirs.map (fun d =>
             let w := c.window p t.window t.miss n d.flipPred
             { d with openQ := w.1, closeQ := w.2, stamps := [] }) }

/-! ## The cycle's timing -/

/-- The latest window close among directions of the paths `ps`. -/
def State.latestClose (s : State) (ps : List Idx3) (ds : List Dir) : Nat :=
  (ps.flatMap (fun p => ds.map (fun d => ((s.tiu.paths.get p).dirs.get d).closeQ))).foldl max 0

/-- The direction received at the first launch of an alternating cycle (R247). -/
def firstDir (parity : Bool) : Dir := if parity then .dn else .up

/-- The other direction. -/
def otherDir : Dir → Dir
  | .up => .dn
  | .dn => .up

/-- Reference periods to the first reference edge at or after twice a number of grid units (R227, R248): four grid units make a
reference period. -/
def twiceInRef (q : Nat) : Nat := ceilDiv (2 * q) 4

end Sys2Proof.Machine
end

