-- ==== Sys2Proof/Machine/Afe.lean ====
section
/-!
DEFINITION. The acoustic front end (chapter 06): half-period classes, the search for the flip, the crossings handed to the slots,
and the result of a direction.
-/
namespace Sys2Proof.Machine

/-- Table 6.6: the class of a half-period. -/
inductive HalfClass where
  | normal | flip | irregular
deriving DecidableEq, Repr

/-- R184: a length in grid units against h_q, each bound rounded inward to whole units. -/
def classOf (hq len : Nat) : HalfClass :=
  if 70 * hq ≤ 100 * len && 100 * len ≤ 130 * hq then .normal
  else if 160 * hq ≤ 100 * len && 100 * len ≤ 240 * hq then .flip
  else .irregular

/-- A direction has failed so far, so that it hands no further crossing (R186 to R188, R193). -/
def AfeDir.failing (x : AfeDir) : Bool := x.early || x.irregular || x.noFlip || x.noLead || x.foreign

/-- The lane released: the peak converter samples (R182, Table 6.3 step 7). -/
def AfeDir.release (x : AfeDir) (peak : Byte) : AfeDir :=
  { x with phase := .released, peak := peak, saturated := peak == 0xFF }

/-- R183, R187: the first threshold firing in the window, or the next one after an abandoned arming. -/
def AfeDir.fire (x : AfeDir) : AfeDir :=
  if x.phase = .searching && !x.irregular then { x with phase := .armed, fired := true } else x

/-- R185, R187: a half-period between the arming edge and the flip. The first arming and three re-armings are made, and the direction
fails when a fourth re-arming would be needed (DEDUCED, log entry 65). -/
def AfeDir.count (x : AfeDir) (hq flipChip q : Nat) (falling : Bool) : AfeDir :=
  match classOf hq (q - x.edge) with
  | .normal => { x with lead := x.lead + 1, edge := q }
  | .flip =>
    { x with phase := .stamping, edge := q, crossing := 0, flip := some (falling, q), noLead := x.lead == 0,
             noFlip := decide (2 * flipChip < x.lead + 2),
             foreign := (match x.lock with | some l => l != falling | none => false) }
  | .irregular =>
    if x.rearms < 3 then { x with phase := .searching, rearms := x.rearms + 1, lead := 0 }
    else { x with phase := .searching, irregular := true }

/-- R190, R193: a crossing after the flip edge, with the stamp number it is handed as. -/
def AfeDir.cross (x : AfeDir) (hq nEff q : Nat) (peak : Byte) : AfeDir × Option Nat :=
  let k := x.crossing + 1
  let y := { x with edge := q, crossing := k, irregular := x.irregular || (classOf hq (q - x.edge) != .normal) }
  if y.failing then (y, none)
  else (if k = 3 + nEff then y.release peak else y, if 4 ≤ k then some (k - 3) else none)

/-- One zero-crossing edge of a lane inside its window. -/
def AfeDir.edgeAt (x : AfeDir) (hq flipChip nEff q : Nat) (falling : Bool) (peak : Byte) : AfeDir × Option Nat :=
  match x.phase with
  | .armed => (if falling then { x with phase := .counting, edge := q, lead := 0 } else x, none)
  | .counting => (x.count hq flipChip q falling, none)
  | .stamping => if x.crossing < 3 + nEff then x.cross hq nEff q peak else (x, none)
  | .idle => (x, none)
  | .waiting => (x, none)
  | .searching => (x, none)
  | .released => (x, none)

/-- Table 6.8: the result of a direction, the highest condition of the table first. -/
def AfeDir.outcome (x : AfeDir) (drive : Bool) (floorCode : Nat) : DirResult :=
  if drive then .drive
  else if x.early then .early
  else if !x.fired then (if x.peak.toNat < floorCode then .belowFloor else .noArrival)
  else if x.irregular then .irregular
  else if x.flip.isNone || x.noFlip then .noFlip
  else if x.noLead then .noLead
  else if x.foreign then .foreign
  else if x.truncated then .truncated
  else .ok

/-- Table 6.8's code of a result. -/
def DirResult.code : DirResult → Nat
  | .ok => 0
  | .noArrival => 1
  | .belowFloor => 2
  | .noFlip => 3
  | .noLead => 4
  | .irregular => 5
  | .foreign => 6
  | .early => 7
  | .truncated => 8
  | .drive => 9

/-- A path's record in the AFE replaced in one direction. -/
def setLane (p : Idx3) (d : Dir) (x : AfeDir) (s : State) : State :=
  let a := s.afe.get p
  { s with afe := s.afe.set p { a with dirs := a.dirs.set d x } }

/-- A direction of a path. -/
def State.lane (s : State) (p : Idx3) (d : Dir) : AfeDir := (s.afe.get p).dirs.get d

/-- A direction's stop window. -/
def State.win (s : State) (p : Idx3) (d : Dir) : WinDir := (s.tiu.paths.get p).dirs.get d

/-- A slot takes the crossing handed to it: from assigned to charged (R201, R202). -/
def handTo (p : Idx3) (d : Dir) (k q : Nat) (t : Tiu) : Tiu :=
  { t with slots := t.slots.map (fun x => if x.use = .stamp p d k then { x with use := .charged p d k q } else x) }

/-- The stamp number for which a slot waits on a direction's crossing. -/
def SlotUse.waitsFor (p : Idx3) (d : Dir) : SlotUse → Option Nat
  | .stamp p' d' k => if p' = p && d' = d then some k else none
  | .free | .charged _ _ _ _ | .timeout | .testWait | .testStart _ | .testStop _ => none

/-- One slot's stamp published to the flow engine (R214). -/
def publish (p : Idx3) (d : Dir) (x : Stamp) (t : Tiu) : Tiu :=
  let y := t.paths.get p
  let w := y.dirs.get d
  { t with paths := t.paths.set p { y with dirs := y.dirs.set d { w with stamps := w.stamps ++ [x] } } }

/-- The slots of a direction that no crossing reached end with the slot result TIMEOUT and wait for their reset (R202). -/
def timeoutSlots (p : Idx3) (d : Dir) (t : Tiu) : Tiu :=
  (List.range 24).foldl (fun t k =>
    match (t.slot k).use.waitsFor p d with
    | some n => publish p d ⟨n, k, .timeout, none⟩ (t.setSlot k { t.slot k with use := .timeout })
    | none => t) t

/-! ## Commands -/

/-- DRIVE_FAULT: the pad's burst stops, its 1 kΩ clamp holds for the rest of the cycle, and the fault is reported once per path and
cycle, not again for the channel's other pad (R170, R196, R520; DESIGN CHOICE, log entry 92). -/
def execDriveFault (pad : XdPad) (s : State) : Host.Outcome State Fault Refusal :=
  .next (let p := pad.path
    let a := s.afe.get p
    if (s.seq.phase == .launched || s.seq.phase == .second || s.seq.phase == .repeating) && s.seq.fired.get p then
      let s' := { s with afe := s.afe.set p { a with drive := true, clamp := a.clamp.set pad.side true },
                         seq := { s.seq with driveNow := true } }
      if a.drive then s' else setFault (raiseFlag flagDrive 0x0405 (arg p.num) s')
    else s)

/-- STOP_WINDOW_OPEN: the direction searches from now on; a signal above the threshold gives EARLY (R174). -/
def execStopWindowOpen (p : Idx3) (d : Dir) (above : Bool) (s : State) : Host.Outcome State Fault Refusal :=
  .next (let x := s.lane p d
    if x.phase = .waiting then setLane p d { x with phase := .searching, early := above } s else s)

/-- THRESHOLD_FIRING: the threshold comparator fires in a grid unit; outside the window it is disregarded (R174, R183). -/
def execThresholdFiring (p : Idx3) (d : Dir) (q : Nat) (s : State) : Host.Outcome State Fault Refusal :=
  .next (let w := s.win p d
    if w.openQ ≤ q && q < w.closeQ then setLane p d (s.lane p d).fire s else s)

/-- ZERO_CROSSING: an edge of the zero-crossing comparator in a grid unit before the window's close (R184 to R193). -/
def execZeroCrossing (p : Idx3) (d : Dir) (q : Nat) (falling : Bool) (peak : Byte) (s : State) : Host.Outcome State Fault Refusal :=
  .next (if q < (s.win p d).closeQ then
    let n := (s.tiu.paths.get p).nEff
    let r := (s.lane p d).edgeAt s.conf.hq (s.conf.flipChip p) n q falling peak
    let s := setLane p d r.1 s
    match r.2 with
    | some k => { s with tiu := handTo p d k q s.tiu }
    | none => s
  else s)

/-- STOP_WINDOW_CLOSE: a direction whose last stamp was not handed ends here (R192, R202). -/
def execStopWindowClose (p : Idx3) (d : Dir) (peak : Byte) (s : State) : Host.Outcome State Fault Refusal :=
  .next (let x := s.lane p d
    if x.phase = .idle || x.phase = .released then s
    else
      let s := setLane p d { x.release peak with truncated := x.flip.isSome } s
      { s with tiu := timeoutSlots p d s.tiu })

end Sys2Proof.Machine
end

