-- ==== Sys2Proof/Machine/Reply.lean ====
section
/-!
DEFINITION. Frames of the Watal link as bytes (R13, R453 to R455, R466): header, checks, transaction types, addresses, what a port
sends, and the answer to a request (R456, R457, R459, R461, R483).
-/
namespace Sys2Proof.Machine

/-! ## Types (Table 16.12) -/

def typePing : BitVec 6 := 0x01
def typeIdentify : BitVec 6 := 0x02
def typeRead : BitVec 6 := 0x03
def typeStatus : BitVec 6 := 0x04
def typeClear : BitVec 6 := 0x05
def typeSweep : BitVec 6 := 0x08
def typeEnumerate : BitVec 6 := 0x09
def typeAssign : BitVec 6 := 0x0A
def typeNotice : BitVec 6 := 0x0B
def typeTimeSet : BitVec 6 := 0x10
def typeTimeRead : BitVec 6 := 0x11
def typeAlarmSet : BitVec 6 := 0x12
def typeState : BitVec 6 := 0x14
def typeBlockReset : BitVec 6 := 0x18
def typeImageOpen : BitVec 6 := 0x20
def typeImageBlock : BitVec 6 := 0x21
def typeImageCommit : BitVec 6 := 0x22
def typeImageAbort : BitVec 6 := 0x23
def typeLogRead : BitVec 6 := 0x28
def typeClaim : BitVec 6 := 0x2C
def typeAck : BitVec 6 := 0x30
def typeNak : BitVec 6 := 0x31

/-! ## Addresses (Table 16.3) -/

def addrHead : BitVec 10 := 0
def addrUnassigned : BitVec 10 := 1022
def addrBroadcast : BitVec 10 := 1023

/-- The frame is addressed to everyone. -/
def isBroadcast (f : Frame) : Bool := f.dest == addrBroadcast

/-! ## Bytes (Tables 16.1, 16.2) -/

/-- The five bytes of a header. -/
def headerBytes (dest src : BitVec 10) (type seq : BitVec 6) (len : Nat) : List Byte :=
  be 5 (dest ++ src ++ type ++ seq ++ BitVec.ofNat 8 len)

/-- The header with its check and the payload: what the frame check covers (R455). -/
def checkedBytes (dest src : BitVec 10) (type seq : BitVec 6) (payload : List Byte) : List Byte :=
  let h := headerBytes dest src type seq payload.length
  h ++ [crc8 h] ++ payload

/-- What a transmission puts on the line, first byte first: a frame with preamble and delimiter, a unit with its sync, or a telegram. -/
def Sent.bytes : Sent → List Byte
  | .frame dest src type seq payload =>
    let b := checkedBytes dest src type seq payload
    [0xAA, 0xAA, 0xD5] ++ b ++ be 4 (crc32 b)
  | .trainUnit body => [0xAA, 0xD5] ++ body
  | .mbus bs => bs

/-- The header check of a received frame of a type. -/
def headerGood (t : BitVec 6) (f : Frame) : Bool :=
  crc8 (headerBytes f.dest f.src t f.seq f.payload.length) == f.headerCheck

/-- Its frame check, over the header, the header check and the payload as they arrived. -/
def checkGood (t : BitVec 6) (f : Frame) : Bool :=
  crc32 (headerBytes f.dest f.src t f.seq f.payload.length ++ [f.headerCheck] ++ f.payload) == f.check

/-- Both checks pass and the length is one that a frame may have. -/
def sound (t : BitVec 6) (f : Frame) : Bool :=
  headerGood t f && decide (f.payload.length ≤ 240) && checkGood t f

/-- A unit's bytes with their CRC-16. -/
def sealed (b : List Byte) : List Byte := b ++ be 2 (crc16 b)

/-- A unit that passes its check: its framing is good, and its last two bytes are the CRC-16 of the others (Tables 16.6, 16.9). -/
def unitGood (u : TrainUnit) : Bool :=
  u.framed && u.body == sealed (u.body.take (u.body.length - 2))

/-! ## Transmissions (R439) -/

/-- LNK transmits on its upstream port, whose direction the L-die takes as its own. -/
def sendLu (x : Sent) (s : State) : State :=
  { s with lnk := { s.lnk with sentLu := some x }, phy := { s.phy with dir := some .lu } }

/-- LNK transmits on its downstream port. -/
def sendLd (x : Sent) (s : State) : State :=
  { s with lnk := { s.lnk with sentLd := some x }, phy := { s.phy with dir := some .ld } }

/-! ## Responses (R483) -/

/-- What serving a request answers: nothing, an ACK with its payload, or a NAK with reason and detail. -/
inductive Reply where
  | silent
  | ack (payload : List Byte)
  | nak (reason detail : Byte)
deriving DecidableEq, Repr

def nakCrc : Byte := 0x01
def nakType : Byte := 0x02
def nakState : Byte := 0x03
def nakBusy : Byte := 0x04
def nakArgument : Byte := 0x05
def nakAuthority : Byte := 0x06
def nakImage : Byte := 0x07

/-- An ACK. -/
def Reply.isAck : Reply → Bool
  | .ack _ => true
  | .silent | .nak _ _ => false

/-- The frame that a reply sends to the requester. -/
def Reply.frame (own : BitVec 10) (t : BitVec 6) (f : Frame) : Reply → Option Sent
  | .silent => none
  | .ack p => some (.frame f.src own typeAck f.seq p)
  | .nak r d => some (.frame f.src own typeNak f.seq [r, t.setWidth 8, d, 0])

/-- A response leaves LU, from the address held after serving, and is kept (R457, R459, R461). -/
def answer (t : BitVec 6) (f : Frame) (r : Reply) (s : State) : State :=
  match r.frame s.lnk.address t f with
  | none => s
  | some x =>
    if isBroadcast f then s
    else sendLu x { s with lnk := { s.lnk with cache := some ⟨f.src, t, f.seq, x⟩ } }

end Sys2Proof.Machine
end

