-- ==== Sys2Proof/Machine/Memc.lean ====
section
/-!
DEFINITION. The memory controller's work (chapter 04): discovery and the boot descriptor, the memory map, save records and the
save area, the log ring, the writes of an image session, and the operations that MEMC completes.
-/
namespace Sys2Proof.Machine

/-! ## Discovery (R100, R101, R104, R105) -/

/-- The identification answers (R100 step 2). -/
def Mem.answers (m : Mem) : Bool := m.present && m.ident != 0 && m.ident != 0xFFFFFF

/-- A power of two between 1 MB and 16 MB. -/
def densityOk (n : Nat) : Bool := [1048576, 2097152, 4194304, 8388608, 16777216].contains n

/-- Why the boot descriptor is rejected: 0 magic, 1 version, 2 CRC, 3 range (R104). -/
def descriptorFault (d : List Byte) : Option Nat :=
  if fieldN d 0 4 ≠ 0x5A4D4244 then some 0
  else if fieldN d 4 2 ≠ 1 then some 1
  else if crc32 (slice d 0 0x3C) ≠ BitVec.ofNat 32 (fieldN d 0x3C 4) then some 2
  else if fieldN d 6 1 ≤ 1 && decide (2 ≤ fieldN d 7 1) && decide (fieldN d 7 1 ≤ 8) && densityOk (fieldN d 8 4) &&
      fieldN d 0x0F 1 == 0 && decide (fieldN d 0x10 2 ≤ 1000) && decide (1 ≤ fieldN d 0x12 2) &&
      decide (fieldN d 0x12 2 ≤ 50) && decide (10 ≤ fieldN d 0x14 2) && decide (fieldN d 0x14 2 ≤ 2000) &&
      allEq 0 (slice d 0x18 0x24) then none
  else some 3

/-- The parameters that the descriptor gives. -/
def Mem.fromDescriptor (m : Mem) (d : List Byte) : Mem :=
  { m with fram := fieldN d 6 1 == 1, clkDiv := fieldN d 7 1, density := fieldN d 8 4, eraseInstr := d.getD 0x0C 0,
           dpd := d.getD 0x0D 0, release := d.getD 0x0E 0, tRelease := fieldN d 0x10 2, progMs := fieldN d 0x12 2,
           eraseMs := fieldN d 0x14 2, suspend := d.getD 0x16 0, resume := d.getD 0x17 0 }

/-- The Default column of Table 4.3. -/
def Mem.defaults (m : Mem) : Mem :=
  { m with fram := false, clkDiv := 2, density := 1048576, eraseInstr := 0x20, dpd := 0, release := 0xAB, tRelease := 50,
           progMs := 5, eraseMs := 500, suspend := 0, resume := 0 }

/-- `n` bytes of the SFDP space (instruction 0x5A), 0xFF behind its end. -/
def Mem.sfdpBytes (m : Mem) (a n : Nat) : List Byte := (List.range n).map (fun k => m.sfdp.getD (a + k) 0xFF)

/-- A JESD216 density word in bytes: the number of bits less one, or with bit 31 set the power of two of the bits (log entry 17). -/
def sfdpDensity (w : Nat) : Nat := if w < 2 ^ 31 then (w + 1) / 8 else 2 ^ min 64 (w - 2 ^ 31) / 8

/-- Density and 4 KB erase instruction of the JESD216 basic parameter table, when the signature is "SFDP" (R100 step 3). The first
parameter header gives the table's address; SFDP words have their least significant byte first (log entry 17). -/
def Mem.sfdpBasic (m : Mem) : Option (Nat × Byte) :=
  if m.sfdpBytes 0 4 = [0x53, 0x46, 0x44, 0x50] then
    let table := natOfBe (m.sfdpBytes 12 3).reverse
    some (sfdpDensity (natOfBe (m.sfdpBytes (table + 4) 4).reverse), (m.sfdpBytes (table + 1) 1).headD 0)
  else none

/-- What discovery makes of the descriptor's outcome: its parameters or the defaults, SFDP before either for density and erase, and at
most 16 MB (R101, R104, R105). The part has been released (R100 step 1). -/
def Mem.discovered (m : Mem) (rejected : Option Nat) (d : List Byte) : Mem :=
  let m := match rejected with
    | none => m.fromDescriptor d
    | some _ => m.defaults
  let m := match m.sfdpBasic with
    | some (n, e) => { m with density := n, eraseInstr := e }
    | none => m
  { m with known := true, asleep := false, density := min m.density 16777216 }

/-- Discovery once per start: identification (logged), SFDP, boot descriptor, precedence. -/
def discover (s : State) : State :=
  if s.mem.known then s
  else if s.mem.answers then
    let d := s.mem.bytes 0 64
    let r := descriptorFault d
    let m := s.mem.discovered r d
    let s := raise 0x0A09 (arg m.ident.toNat) { s with mem := m }
    match r with
    | some c => raise 0x0A08 (arg c) s
    | none => s
  else
    raise 0x0A09 (arg s.mem.ident.toNat) { s with mem := { s.mem.defaults with known := true, density := 0 } }

/-! ## Erases and programs -/

/-- A 4 KB sector erased on NOR; FRAM is never erased (R105). -/
def Mem.eraseNor (m : Mem) (a n : Nat) : Mem := if m.fram then m else m.eraseRange a n

/-! ## Save records (R121 to R124) -/

/-- slot_map (Table 4.20). -/
def SaveArea.slotMap (a : SaveArea) : Byte := a.retired ++ BitVec.ofNat 2 a.second ++ BitVec.ofNat 2 a.first

/-- The 128 bytes of a save record (Table 4.20). -/
def saveRecord (seq : BitVec 32) (map kind : Byte) (body : List Byte) : List Byte :=
  let r := be 4 (0x5A4D5356 : BitVec 32) ++ be 4 seq ++ [map, kind] ++ slice (body ++ zeros 114) 0 114
  r ++ be 4 (crc32 r)

/-- A record read back whole and valid: its magic and save_crc (R123). -/
def saveValid (r : List Byte) : Bool :=
  fieldN r 0 4 == 0x5A4D5356 && crc32 (slice r 0 0x7C) == BitVec.ofNat 32 (fieldN r 0x7C 4)

/-- The record at a position of a slot. -/
def Mem.saveAt (m : Mem) (k p : Nat) : List Byte := m.bytes (slotBase k + 128 * p) 128

/-- Every place of the save area, slot by slot. -/
def savePlaces : List (Nat × Nat) := (List.range 4).flatMap (fun k => (List.range 32).map (fun p => (k, p)))

/-- The valid records with their places. -/
def Mem.validSaves (m : Mem) : List ((Nat × Nat) × List Byte) :=
  (savePlaces.map (fun x => (x, m.saveAt x.1 x.2))).filter (fun x => saveValid x.2)

/-- The record with the highest save_seq (R123). -/
def newestSave (rs : List ((Nat × Nat) × List Byte)) : Option ((Nat × Nat) × List Byte) :=
  rs.foldl (fun acc x =>
    match acc with
    | none => some x
    | some y => if fieldN y.2 4 4 < fieldN x.2 4 4 then some x else some y) none

/-- The save area reads blank (R354). -/
def Mem.saveBlank (m : Mem) : Bool :=
  let b := m.bytes saveBase 16384
  allEq 0xFF b || (m.fram && allEq 0 b)

/-- The first position from `p` whose 128 bytes read 0xFF, or on FRAM `p` itself. -/
def Mem.freePos (m : Mem) (k p : Nat) : Option Nat :=
  if m.fram then (if p < 32 then some p else none)
  else ((List.range 32).filter (fun q => decide (p ≤ q) && allEq 0xFF (m.saveAt k q))).head?

/-- The other active slot. -/
def SaveArea.other (a : SaveArea) : Nat := if a.slot = a.first then a.second else a.first

/-- The save area as a start finds it: active and retired slots, and the next position (R123). -/
def Mem.findSaves (m : Mem) (a : SaveArea) : SaveArea :=
  match newestSave m.validSaves with
  | none => { a with first := 0, second := 1, retired := 0, slot := 0, pos := 0, seq := 0 }
  | some ((k, p), r) =>
    let map : Byte := r.getD 8 0
    let a := { a with first := map.toNat % 4, second := map.toNat / 4 % 4, retired := BitVec.ofNat 4 (map.toNat / 16),
                      seq := BitVec.ofNat 32 (fieldN r 4 4), atS := BitVec.ofNat 32 (fieldN r 0x0A 4),
                      slot := k, degraded := map.toNat % 4 == map.toNat / 4 % 4 }
    match m.freePos k (p + 1) with
    | some q => { a with pos := q }
    | none => { a with slot := a.other, pos := 0, eraseFirst := true }

/-- The position after a completed save (R122). -/
def SaveArea.advance (a : SaveArea) : SaveArea :=
  if a.pos < 31 then { a with pos := a.pos + 1, eraseFirst := false } else { a with slot := a.other, pos := 0, eraseFirst := false }

/-- The next position in the one slot that remains: after its newest valid record (R124). -/
def Mem.lastPos (m : Mem) (k : Nat) : Nat :=
  match newestSave (m.validSaves.filter (fun x => x.1.1 == k)) with
  | some ((_, p), _) => (m.freePos k (p + 1)).getD 0
  | none => (m.freePos k 0).getD 0

/-- The spare that replaces a slot: the lower-numbered of slots 2 and 3 that is neither active nor retired (R124). -/
def SaveArea.spare (a : SaveArea) : Option Nat :=
  [2, 3].find? (fun k => k != a.first && k != a.second && !a.retired.getLsbD k)

/-- The erase of R122. -/
def MemReq.ofSlot : MemReq → Bool
  | .eraseSlot _ => true
  | .save _ _ _ | .saveErase _ _ _ | .log | .logErase | .imageErase _ _ _ | .imageBlock _ _ _ _ | .imageHeader _ _ _ => false

/-- A slot retired after a failed program, erase or read-back; with no spare left no erase of R122 is made any more (R124). -/
def retireSaveSlot (k : Nat) (s : State) : State :=
  let a := s.save
  if a.first = a.second then occur flagSave s
  else
    let retired := a.retired ||| (1 <<< k)
    match a.spare with
    | some r =>
      let a := { a with retired := retired, first := if a.first = k then r else a.first,
                        second := if a.second = k then r else a.second,
                        slot := if a.slot = k then r else a.slot, pos := if a.slot = k then 0 else a.pos,
                        eraseFirst := a.slot == k || a.eraseFirst }
      occur flagSave (raise 0x0602 (arg (k * 256 + r)) { s with save := a })
    | none =>
      let keep := if a.first = k then a.second else a.first
      let pos := if a.slot = keep then a.pos else s.mem.lastPos keep
      let a := { a with retired := retired, first := keep, second := keep, slot := keep, pos := pos, degraded := true }
      let m := { s.mem with queue := s.mem.queue.filter (fun r => !r.ofSlot), suspended := s.mem.suspended.filter (fun r => !r.ofSlot) }
      setFault (occur flagSave (occur flagSave (raise 0x0602 (arg (k * 256 + 255)) { s with save := a, mem := m })))

/-- The save at the present position reads back good. -/
def State.saveOk (s : State) : Bool :=
  let b := slotBase s.save.slot
  (!s.saveErases || s.mem.opOk b 4096) && s.mem.opOk (b + 128 * s.save.pos) 128

/-- A scheduled save that waits. -/
def MemReq.isScheduled : MemReq → Bool
  | .save pf _ _ | .saveErase pf _ _ => !pf
  | .eraseSlot _ | .log | .logErase | .imageErase _ _ _ | .imageBlock _ _ _ _ | .imageHeader _ _ _ => false

/-- A save that read back good: the record, the next position, the erase of R122, alive_s (R352). A power-fail save counts as the
scheduled one that waits (R360). -/
def saveDone (pf : Bool) (kind : Byte) (body : List Byte) (s : State) : State :=
  let a := s.save
  let seq := a.seq + 1
  let b := slotBase a.slot
  let m := if s.saveErases then s.mem.eraseNor b 4096 else s.mem
  let m := m.program (b + 128 * a.pos) (saveRecord seq a.slotMap kind body)
  let m := if pf then { m with queue := m.queue.filter (fun r => !r.isScheduled) } else m
  let erase := !s.mem.fram && a.pos == 16 && a.first != a.second
  let a' := { a.advance with seq := seq, atS := BitVec.ofNat 32 (fieldN body 0 4), due := false,
                             current := body == s.snap.regs }
  let s' := { s with mem := m, save := a' }
  let s' := match s'.ee.lastIntS with
    | some t => request (.alive t) s'
    | none => s'
  when erase (requestMem (.eraseSlot a.other)) s'

/-- The outcome of a save's program and read-back; a failed save is repeated at once from the same snapshot (R124). -/
def finishSave (ok pf : Bool) (kind : Byte) (body : List Byte) (s : State) : State :=
  if ok then saveDone pf kind body s
  else
    let single := s.save.first == s.save.second
    let s := retireSaveSlot s.save.slot s
    let s := if single then { s with save := { s.save with pos := if s.save.pos < 31 then s.save.pos + 1 else 0 } } else s
    begins { s with mem := { s.mem with busy := some (.save pf kind (some body)), queue := s.mem.queue ++ s.mem.busy.toList } }

/-- The outcome of the erase before a save: the save's record follows at the front of its rank, an erase of R122 that still waited for that
slot lapses, and a failed erase is a failed save (R123, R124). -/
def finishSaveErase (ok pf : Bool) (kind : Byte) (body : List Byte) (s : State) : State :=
  let b := slotBase s.save.slot
  if ok && s.mem.opOk b 4096 then
    let gone := MemReq.eraseSlot s.save.slot
    { s with mem := { s.mem.eraseNor b 4096 with queue := .save pf kind (some body) :: s.mem.queue.filter (· != gone),
                                                 suspended := s.mem.suspended.filter (· != gone) },
             save := { s.save with eraseFirst := false } }
  else finishSave false pf kind body s

/-- The outcome of a save slot's erase; a failed erase retires the slot and its replacement is erased, at once or, when the next save goes
there, before that save (R124). -/
def finishErase (ok : Bool) (k : Nat) (s : State) : State :=
  if ok then { s with mem := s.mem.eraseNor (slotBase k) 4096 }
  else
    let t := retireSaveSlot k s
    match s.save.spare with
    | some r => if t.save.first = t.save.second || t.save.slot = r then t else requestMem (.eraseSlot r) t
    | none => t

/-! ## The log ring (R127, R499 to R503, R539) -/

/-- Number of positions. -/
def Mem.logSize (m : Mem) : Nat := (m.density - logBase) / 16

/-- The 16 bytes of a record (Table 17.2). -/
def Record.bytes (r : Record) : List Byte :=
  let b := be 4 r.seq ++ be 4 r.deviceS ++ be 2 r.code ++ be 4 r.arg
  b ++ be 2 (crc16 b)

/-- The 16 bytes stored at a position. -/
def Mem.logAt (m : Mem) (p : Nat) : List Byte := m.bytes (logBase + 16 * p) 16

/-- A stored record that is not empty and passes record_crc. -/
def logValid (b : List Byte) : Bool := crc16 (slice b 0 14) == BitVec.ofNat 16 (fieldN b 14 2)

/-- Positions that may hold a record, ascending: within a fitted part those with a listed byte, since every other reads empty. -/
def Mem.logPlaces (m : Mem) : List Nat :=
  if m.density ≤ m.fitted then
    (m.cells.foldr (fun c acc =>
      if logBase ≤ c.1 && c.1 < logBase + 16 * m.logSize then
        (let p := (c.1 - logBase) / 16; if acc.head? = some p then acc else p :: acc)
      else acc) [])
  else List.range m.logSize

/-- The valid records in position order. -/
def Mem.logValids (m : Mem) : List (Nat × List Byte) :=
  (m.logPlaces.map (fun p => (p, m.logAt p))).filter (fun x => logValid x.2)

/-- `b` lies behind `a`: (b − a) mod 2^32 is 2^31 or more (R539). -/
def behind (a b : Nat) : Bool := decide (2 ^ 31 ≤ (b + 2 ^ 32 - a) % 2 ^ 32)

/-- The first valid record whose successor lies behind it, the last when none does (R539). -/
def newestOf (first : Nat × List Byte) : List (Nat × List Byte) → Option (Nat × List Byte)
  | [] => none
  | [x] => if behind (fieldN x.2 0 4) (fieldN first.2 0 4) then some x else none
  | x :: y :: rest => if behind (fieldN x.2 0 4) (fieldN y.2 0 4) then some x else newestOf first (y :: rest)

/-- The newest record of the log (R539). Where no record's successor lies behind it (one record, or one event throughout), the
last in position order. -/
def Mem.newestLog (m : Mem) : Option (Nat × List Byte) :=
  match m.logValids with
  | [] => none
  | x :: xs => match newestOf x (x :: xs) with
    | some y => some y
    | none => (x :: xs).getLast?

/-- The ring as found by a scan: writing stands in the newest record's sector. -/
def Mem.findLog (m : Mem) : LogRing :=
  match m.newestLog with
  | some (p, _) => { next := (p + 1) % max 1 m.logSize, any := true, failed := 0, sector := some (p / 256) }
  | none => { next := 0, any := false, failed := 0, sector := none }

/-- The ring behind a write failure at its next position: a failed erase passes over its whole sector (log entry 62), a failed program
over its position (R503). -/
def LogRing.skip (g : LogRing) (size : Nat) (sector : Bool) : LogRing :=
  let n := if sector then (g.next / 256 + 1) * 256 else g.next + 1
  { g with next := if n < size then n else 0, any := true, failed := g.failed + 1,
           sector := if sector then none else some (g.next / 256) }

/-- One record written at the next position, or behind each failure (R503): the memory, the ring, and the failed positions. -/
def writeRecord (b : List Byte) : Nat → Mem × LogRing → List Nat → (Mem × LogRing) × List Nat
  | 0, x, bad => (x, bad)
  | fuel + 1, (m, g), bad =>
    let erases := m.logErases g
    let e := sectorBase g.next
    if erases && !m.opOk e 4096 then writeRecord b fuel (m, g.skip m.logSize true) (bad ++ [g.next])
    else
      let m := if erases then m.eraseRange e 4096 else m
      let a := logBase + 16 * g.next
      if m.opOk a 16 then
        ((m.program a b, { g with next := (g.next + 1) % max 1 m.logSize, any := true, sector := some (g.next / 256) }), bad)
      else writeRecord b fuel (m, g.skip m.logSize false) (bad ++ [g.next])

/-- Records written in order, each at one of at most `fuel` positions. -/
def writeRecords (fuel : Nat) : List Record → Mem × LogRing → List Nat → (Mem × LogRing) × List Nat
  | [], x, bad => (x, bad)
  | r :: rs, x, bad => writeRecords fuel rs (writeRecord r.bytes fuel x bad).1 (writeRecord r.bytes fuel x bad).2

/-- Room for it has returned: the overflow event of R502. -/
def reportDrops (s : State) : State :=
  if s.eva.dropped = 0 || 62 < s.eva.queue.length then s
  else raise 0x0904 [BitVec.ofNat 32 s.eva.dropped, s.eva.firstDropped] { s with eva := { s.eva with dropped := 0 } }

/-- The event queue written to the log within the step, and what failed logged: where nothing goes on before the log is written (a park
entry, a log read) (R501 to R503). -/
def flushLog (s : State) : State :=
  if s.mem.usable then
    let r := writeRecords (max 1 s.mem.logSize) s.eva.queue (s.mem, s.log) []
    let s := { s with mem := r.1.1, log := r.1.2, eva := { s.eva with queue := [] } }
    reportDrops (r.2.foldl (fun t p => raise 0x0905 (arg p) t) s)
  else s

/-- A log write goes on while the queue holds records, among them the overflow event once there is room for it (R501, R502). -/
def nextRecord (s : State) : State :=
  let s := reportDrops s
  if s.eva.queue.isEmpty || s.mem.logAsked then s else requestMem .log s

/-- A write failure of the log at its next position: the ring passes over it, and the position is logged (R107, R503). -/
def failPosition (sector : Bool) (s : State) : State :=
  raise 0x0905 (arg s.log.next) { s with log := s.log.skip s.mem.logSize sector }

/-- The outcome of a record's program: the record leaves the queue, or it is written again behind the failure (R107, R503). -/
def finishLog (ok : Bool) (s : State) : State :=
  match s.eva.queue with
  | [] => s
  | r :: rest =>
    let g := s.log
    let a := logBase + 16 * g.next
    nextRecord (if ok && s.mem.opOk a 16 then
      { s with mem := s.mem.program a r.bytes, eva := { s.eva with queue := rest },
               log := { g with next := (g.next + 1) % max 1 s.mem.logSize, any := true, sector := some (g.next / 256) } }
    else failPosition false s)

/-- The outcome of a log sector's erase (R107, R127). -/
def finishLogErase (ok : Bool) (s : State) : State :=
  let e := sectorBase s.log.next
  nextRecord (if ok && s.mem.opOk e 4096 then
    { s with mem := s.mem.eraseNor e 4096, log := { s.log with sector := some (s.log.next / 256) } }
  else failPosition true s)

/-! ## Writes of an image session (Table 17.5, R508 to R511) -/

/-- The number of a bank as events and IDENTIFY print it. -/
def bankNum : Bank → Nat
  | .a => 0
  | .b => 1

/-- The argument of 0x0A0A and the head of 0x080A: kind, bank (Table 17.3). -/
def bankArg (firmware : Bool) (k : Bank) (low : Nat) : Nat := firmware.toNat * 4096 + bankNum k * 256 + low

/-- An event 0x080A of the session: state and Table 4.6 reason. -/
def logSession (i : ImgSession) (state : Nat) (reason : Byte) (s : State) : State :=
  raise 0x080A [BitVec.ofNat 32 (bankArg i.firmware i.bank (state * 16)), BitVec.ofNat 32 reason.toNat] s

/-- A request whose answer waits for MEMC. -/
def MemReq.answers : MemReq → Bool
  | .imageBlock _ _ _ _ | .imageHeader _ _ _ => true
  | .save _ _ _ | .saveErase _ _ _ | .eraseSlot _ | .log | .logErase | .imageErase _ _ _ => false

/-- A block or a commit is being served, so that its answer waits (Table 17.6). -/
def Mem.answerWaits (m : Mem) : Bool := m.busy.any MemReq.answers || m.queue.any MemReq.answers

/-- A session closes without a commit: what it still asked of MEMC lapses, but for the instruction in progress (R511, Table 17.4). -/
def closeSession (state : Nat) (reason : Byte) (s : State) : State :=
  match s.img with
  | none => s
  | some i =>
    memVote (logSession i state reason { s with img := none, mem := s.mem.closeImage i })

/-- The session closes with NAK 0x07 and a detail. -/
def failSession (i : ImgSession) (state : Nat) (reason : Byte) (s : State) : Reply × State :=
  (.nak nakImage reason, logSession i state reason { s with img := none, mem := s.mem.dropHeader i })

/-- The sectors that a session's erase covers: on NOR those that image_length reaches, on FRAM the one that holds the header. -/
def ImgSession.sectors (i : ImgSession) (fram : Bool) : Nat := if fram then 1 else (i.length + 4095) / 4096

/-- What step 1 of Table 17.5 makes 0xFF at once: a sector, or on FRAM 64 bytes. -/
def Mem.imageUnit (m : Mem) : Nat := if m.fram then 64 else 4096

/-- A sector of a session's erase has ended: the next one follows, and the last ends the erase; a failed one is logged (R107). The sector of
a session that has closed since concerns no later one (R508, R511). -/
def finishSector (ok own : Bool) (base k : Nat) (s : State) : State :=
  let a := base + 4096 * k
  let good := ok && s.mem.usable && s.mem.opOk a s.mem.imageUnit
  let s := if good then { s with mem := s.mem.eraseRange a s.mem.imageUnit } else s
  match s.img with
  | none => s
  | some i =>
    if !(own && i.erasing) then s
    else if !good then logSession i 5 0x0B { s with img := some { i with erasing := false, eraseFailed := true } }
    else if k + 1 < i.sectors s.mem.fram then requestMem (.imageErase base (k + 1) true) s
    else { s with img := some { i with erasing := false } }

/-- The bytes of a block above the header, and the offset that they go to. -/
def aboveHeader (off : Nat) (d : List Byte) : Nat × List Byte := (off + (64 - off), d.drop (64 - off))

/-- A block takes its place: the header's bytes in the buffer, and next_offset behind it (Table 17.5 step 3). -/
def ImgSession.take (i : ImgSession) (off : Nat) (d : List Byte) : ImgSession :=
  { i with next := off + d.length, header := i.header ++ d.take (64 - off), lastBlock := some (off, d) }

/-- A block's program and read-back have ended: ACK with next_offset, or NAK 0x07 with detail 0x0B and the session's end (R510). -/
def finishBlock (ok : Bool) (base off : Nat) (d : List Byte) (f : Frame) (s : State) : State :=
  let x := aboveHeader off d
  let good := ok && s.mem.usable && s.mem.opOk (base + x.1) x.2.length
  let s := if good then { s with mem := s.mem.program (base + x.1) x.2 } else s
  match s.img with
  | none => answer typeImageBlock f (.nak nakState 0) s
  | some i =>
    if good then answer typeImageBlock f (.ack (beN 4 (off + d.length))) { s with img := some (i.take off d) }
    else
      let r := failSession i 5 0x0B s
      answer typeImageBlock f r.1 r.2

/-- The header's program and read-back have ended: the commit passes (R155, Table 5.8), alarm_src goes back to 0 for a configuration image
(R383), and the ordered restart follows the ACK. A session that has closed since leaves its bank without a header (R511). -/
def finishHeader (ok : Bool) (base : Nat) (h : List Byte) (f : Frame) (s : State) : State :=
  match s.img with
  | none => answer typeImageCommit f (.nak nakState 0) s
  | some i =>
    if ok && s.mem.usable && s.mem.opOk base h.length then
      let s := writeLedger (fun l => { l with altMask := 0 })
        (logSession i 3 0 { s with img := none, mem := s.mem.program base h })
      let s := if i.firmware then s else commitNow (.alarm s.bkd.alarm false) s
      let s := answer typeImageCommit f (.ack []) s
      { s with lnk := { s.lnk with resetAfter := some 0 } }
    else
      let r := failSession i 5 0x0B s
      answer typeImageCommit f r.1 r.2

/-! ## Completion (R125) -/

/-- What the end of an operation does, well or not. -/
def finishReq (ok : Bool) (r : MemReq) (s : State) : State :=
  match r with
  | .save pf kind body => finishSave (ok && s.saveOk) pf kind (body.getD s.snap.regs) s
  | .saveErase pf kind body => finishSaveErase ok pf kind (body.getD s.snap.regs) s
  | .eraseSlot k => finishErase (ok && s.mem.opOk (slotBase k) 4096) k s
  | .log => finishLog ok s
  | .logErase => finishLogErase ok s
  | .imageErase base k own => finishSector ok own base k s
  | .imageBlock base off d f => finishBlock ok base off d f s
  | .imageHeader base h f => finishHeader ok base h f s

/-- A BLOCK RESET naming MEMC, once no instruction is in progress: an open session closes, with the sector that would follow (Table
17.4). -/
def memcReset (s : State) : State :=
  if s.mem.resetDue then
    let t := closeSession 1 0 { s with mem := { s.mem with resetDue := false } }
    { t with mem := { t.mem with busy := t.mem.busy.filter (fun r => !r.ofImage) } }
  else s

/-- The operation in progress ends, well or not, and MEMC serves its next request. -/
def finishMem (ok : Bool) (s : State) : State :=
  match s.mem.busy with
  | none => s
  | some r =>
    let s := memcReset (finishReq ok r { s with mem := { s.mem with busy := none } })
    memVote (begins { s with mem := s.mem.serve s.snap.regs })

/-- Everything asked of MEMC so far, one operation after the other, at most `n` of them: what has happened when a request that is
served last, a log read, or a park entry goes on (R125). -/
def finishAll : Nat → State → State
  | 0, s => s
  | n + 1, s => if s.mem.busy.isSome then finishAll n (finishMem true s) else s

/-- Operations that can wait at once: four slots' saves and erases, the log's 64 records with their sectors, and a bank's 16 sectors with
a block. -/
def memDepth : Nat := 128

/-- A save in progress, its sector's erase included. -/
def MemReq.ofSave : MemReq → Bool
  | .save _ _ _ | .saveErase _ _ _ => true
  | .eraseSlot _ | .log | .logErase | .imageErase _ _ _ | .imageBlock _ _ _ _ | .imageHeader _ _ _ => false

/-- A save in progress carried through to its end within the step, its repeats included: at most one per slot and then the positions of
the slot that remains, each with its erase. -/
def saveThrough : Nat → State → State
  | 0, s => { s with mem := { s.mem with busy := none } }
  | n + 1, s => if s.mem.busy.any MemReq.ofSave then saveThrough n (finishMem true s) else s

/-- The instruction in progress ends: a save with its repeats, so that it is made whole (R125, R132). -/
def finishBusy (s : State) : State :=
  if s.mem.busy.any MemReq.ofSave then saveThrough 80 s else finishMem true s

/-- What MEMC has taken up goes back behind the requests that wait. -/
def unserve (s : State) : State :=
  { s with mem := { s.mem with busy := none, queue := s.mem.queue ++ s.mem.busy.toList } }

/-- The save of an ordered restart or a park entry: the instruction in progress ends first, a save in progress is completed, and then this
save is made before anything that waits (R125, R132, R348, R398). -/
def saveNow (kind : Byte) (s : State) : State :=
  if s.mem.usable then
    let q := s.mem.queue
    let e := s.mem.suspended
    let s := unserve (finishBusy { s with mem := { s.mem with queue := [], suspended := [] } })
    let r := s.mem.queue
    let s := { s with mem := { s.mem with queue := [], busy := some (.save false kind (some s.snap.regs)) } }
    let s := unserve (saveThrough 80 (begins s))
    memVote (begins { s with mem := Mem.serve s.snap.regs { s.mem with queue := q ++ r ++ s.mem.queue, suspended := e } })
  else s

end Sys2Proof.Machine
end

