-- ==== Sys2Proof/Machine/Tiu.lean ====
section
/-!
DEFINITION. The time interval unit (chapter 07): from a code to a stamp, the conversion checks, calibration of the slots, the vernier
and its self-test, retirement, and the direct test mode.
-/
namespace Sys2Proof.Machine

/-! ## From a code to ticks (R214) -/

/-- An INL point in 1/8 tick. -/
def CalRec.point (c : CalRec) (j : Nat) : Int := c.inl.getD j 0

/-- x_lin as a numerator over the span: ticks above one period, times the span in 1/16 code. -/
def CalRec.xLin (c : CalRec) (code : Nat) : Int := ((16 * code : Nat) - (c.c1x16.toNat : Int)) * 32768

/-- The span code_2p − code_1p in 1/16 code. -/
def CalRec.span (c : CalRec) : Int := (c.c2x16.toNat : Int) - c.c1x16.toNat

/-- x = x_lin − inl(x_lin), as a numerator over 8192 × span, for a positive span `d` and x_lin = n / d. -/
def CalRec.linear (c : CalRec) (n d : Int) : Int :=
  if n ≤ 512 * d then 8192 * n - 2 * c.point 0 * max n 0
  else if 32256 * d ≤ n then 8192 * n - 2 * c.point 31 * max (32768 * d - n) 0
  else
    let j := ((n - 512 * d) / (1024 * d)).toNat
    8192 * n - c.point j * 1024 * d - (c.point (j + 1) - c.point j) * (n - (1024 * j + 512 : Nat) * d)

/-- What a conversion gives: x_lin within the range check's bounds, and the rounded x. A record with equal codes gives a free
value (log entry 8). -/
structure Reading where
  inRange : Bool
  x : Int
deriving DecidableEq, Repr

/-- A code against a slot's record (R214, the range check of Table 7.6). The quotients are exact and x is rounded once; no intermediate is
cut to 1/256 tick (DESIGN CHOICE, log entry 66). -/
def CalRec.read (c : CalRec) (code free : Nat) : Reading :=
  let sp := c.span
  if sp = 0 then
    let v := Config.uncalibratedReading code free
    { inRange := code != 0 && code != 65535 && decide (-1638 ≤ v) && decide (v ≤ 34406), x := v }
  else
    let n := if sp < 0 then -c.xLin code else c.xLin code
    let d := if sp < 0 then -sp else sp
    { inRange := code != 0 && code != 65535 && decide (-1638 * d ≤ n) && decide (n ≤ 34406 * d),
      x := roundDiv (c.linear n d) (8192 * d).toNat }

/-- The stamp: coarse_end × 32 768 − (32 768 + x), modulo 2^39. -/
def stampOf (coarseEnd : Nat) (x : Int) : Nat := (((coarseEnd : Int) * 32768 - 32768 - x) % 2 ^ 39).toNat

/-- rel_ticks: the stamp from a launch edge, modulo 2^39 (R200). -/
def relTicks (stamp launch : Nat) : Nat := (stamp + 2 ^ 39 - launch * 32768 % 2 ^ 39) % 2 ^ 39

/-- The grid check of Table 7.6. -/
def gridOk (rel q : Nat) : Bool := decide (rel / 8192 ≤ q + 1) && decide (q ≤ rel / 8192 + 1)

/-- The cause of the check of Table 7.6 that a conversion fails, of several the first in the table's order (DESIGN CHOICE, log entry 67);
the grid check applies where a grid unit is given. -/
def checkCause (r : Reading) (rel : Nat) (q : Option Nat) (chargeOk : Bool) : Option (BitVec 4) :=
  if !r.inRange then some 4
  else if (match q with | some g => !gridOk rel g | none => false) then some 5
  else if !chargeOk then some 6
  else none

/-! ## Retiring a slot (R225, R226, R209) -/

/-- A slot retired since the start: its state, its cause, the event and the latched flag (R225, R229). -/
def retireSlot (k : Nat) (cause : BitVec 4) (s : State) : State :=
  let x := s.tiu.slot k
  raiseFlag flagSlot 0x0301 (arg (k * 256 + cause.toNat))
    { s with tiu := s.tiu.setSlot k { x with state := 2, cause := cause, use := .free } }

/-- A conversion that failed a check: counted, and its slot retired (R226). -/
def failConversion (k : Nat) (cause : BitVec 4) (s : State) : State :=
  let s := retireSlot k cause s
  { s with tiu := { s.tiu with convFail := s.tiu.convFail + 1 } }

/-! ## Calibration (R216 to R219) -/

/-- Sum of codes. -/
def sumN (xs : List Nat) : Nat := xs.foldl (· + ·) 0

/-- Sum of integers. -/
def sumI (xs : List Int) : Int := xs.foldl (· + ·) 0

/-- The mean of n codes in 1/16 code, rounded: with the 16 of R216 their sum. -/
def mean16 (xs : List Nat) : Nat := (roundDiv (16 * sumN xs : Nat) (max 1 xs.length)).toNat

/-- (16 sd)² of n codes as a numerator over n (n − 1): 256 × (n Σx² − (Σx)²), the sample variance (R216). -/
def varNum (xs : List Nat) : Nat := 256 * (xs.length * sumN (xs.map (fun x => x * x)) - sumN xs * sumN xs)

/-- n (n − 1). -/
def varDen (xs : List Nat) : Nat := xs.length * (xs.length - 1)

/-- The nearest integer to the root of n / d. -/
def rootDiv (n d : Nat) : Nat := (rootOf (4 * n / d) + 1) / 2

/-- Gain calibration of one slot: its record (R216). -/
def CalRec.gain (c : CalRec) (r : SlotRaw) (now : BitVec 32) : CalRec :=
  { c with c1x16 := BitVec.ofNat 32 (mean16 r.codes1), c2x16 := BitVec.ofNat 32 (mean16 r.codes2),
           sdX16 := BitVec.ofNat 16 (max (rootDiv (varNum r.codes1) (varDen r.codes1)) (rootDiv (varNum r.codes2) (varDen r.codes2))),
           atS := now }

/-- The standard deviation of the conversions is at most 12 codes. -/
def sdOk (xs : List Nat) : Bool := decide (varNum xs ≤ varDen xs * (16 * 12) ^ 2)

/-- Table 7.7, cause 0x1. -/
def gainOk (c : CalRec) (r : SlotRaw) : Bool :=
  decide (2000 * 16 ≤ c.c1x16.toNat) && decide (c.c1x16.toNat ≤ 9000 * 16) &&
  decide (46400 * 16 ≤ c.span) && decide (c.span ≤ 62800 * 16) && sdOk r.codes1 && sdOk r.codes2

/-! ## Intervals of the vernier (R230, R231) -/

/-- The two ring periods in 0.01 ps, each as numerator and denominator. -/
structure RingPair where
  a : Nat × Nat
  b : Nat × Nat
deriving DecidableEq, Repr

/-- The denominator that every interval under one ring calibration has. -/
def RingPair.den (p : RingPair) : Nat := p.a.2 * p.b.2

/-- d_ps of k periods of ring A and n of ring B, in 0.01 ps over `den`: (k − n) ta + n res with res = ta − tb, which is k ta − n tb
(R230). -/
def RingPair.interval (p : RingPair) (v : VernierCount) : Int := (v.k * p.a.1 * p.b.2 : Nat) - (v.n * p.b.1 * p.a.2 : Nat)

/-- A stimulus's delay less the vernier's own input offset (R217), in 0.01 ps over `den`. -/
def RingPair.delay (p : RingPair) (offset v : VernierCount) : Int := p.interval v - p.interval offset

/-- x_true of a delay, as a numerator over 4 166 667 × den (R217). -/
def RingPair.xTrue (p : RingPair) (offset v : VernierCount) : Int := (4166667 * (p.den : Int) - p.delay offset v) * 32768

/-- An INL point from its stimuli: the mean of x_lin − x_true in 1/8 tick (R217), for a positive span. -/
def inlPoint (p : RingPair) (offset : VernierCount) (c : CalRec) (xs : List Stimulus) : Int :=
  let lin := sumI (xs.map (fun x => c.xLin x.code))
  let tru := sumI (xs.map (fun x => p.xTrue offset x.delay))
  roundDiv ((lin * (4166667 * p.den : Nat) - tru * c.span) * 8) (c.span * (4166667 * p.den : Nat) * max 1 xs.length).toNat

/-- The INL table of one slot. -/
def CalRec.withInl (c : CalRec) (p : RingPair) (r : SlotRaw) : CalRec := { c with inl := r.inl.map (inlPoint p r.offset c) }

/-- Neighbours differ by at most a bound. -/
def stepsOk (bound : Int) : List Int → Bool
  | x :: y :: rest => decide (y - x ≤ bound) && decide (x - y ≤ bound) && stepsOk bound (y :: rest)
  | _ => true

/-- Table 7.7, cause 0x2. -/
def inlOk (c : CalRec) : Bool :=
  c.inl.all (fun x => decide (-320 * 8 ≤ x) && decide (x ≤ 320 * 8)) && stepsOk (48 * 8) c.inl

/-- x − x_true of a cross-check stimulus, as a numerator over 8192 × span × 4 166 667 × den (R218). -/
def crossDiff (p : RingPair) (offset : VernierCount) (c : CalRec) (x : Stimulus) : Int :=
  c.linear (c.xLin x.code) c.span * (4166667 * p.den : Nat) - p.xTrue offset x.delay * (8192 * c.span)

/-- Table 7.7, cause 0x3. -/
def crossOk (p : RingPair) (c : CalRec) (r : SlotRaw) : Bool :=
  let den := 8192 * c.span * (4166667 * p.den : Nat)
  let ds := r.cross.map (crossDiff p r.offset c)
  let n : Int := max 1 r.cross.length
  ds.all (fun x => decide (-40 * den ≤ x) && decide (x ≤ 40 * den)) &&
  decide (-16 * den * n ≤ sumI ds) && decide (sumI ds ≤ 16 * den * n)

/-- A gain calibration of one slot: its record, or the cause of its failure with the record; a conversion that fails its charge check
comes before the figures (R215, R225). -/
def gainSlot (r : SlotRaw) (now : BitVec 32) (c : CalRec) : CalRec × Option (BitVec 4) :=
  let c := c.gain r now
  (c, if !r.gainCharged then some 6 else if gainOk c r then none else some 1)

/-- An INL calibration with its cross-check of one slot; the new table is used only after the cross-check (R217). -/
def inlSlot (p : RingPair) (r : SlotRaw) (c : CalRec) : CalRec × Option (BitVec 4) :=
  let n := c.withInl p r
  if !r.inlCharged then (c, some 6)
  else if !inlOk n then (c, some 2)
  else if !crossOk p n r then (c, some 3)
  else (n, none)

/-- Gain, then INL and cross-check where the vernier is good (R233), of one slot. -/
def fullSlot (p : Option RingPair) (r : SlotRaw) (now : BitVec 32) (c : CalRec) : CalRec × Option (BitVec 4) :=
  match gainSlot r now c with
  | (c, some k) => (c, some k)
  | (c, none) =>
    match p with
    | some p => inlSlot p r c
    | none => (c, none)

/-- A slot retired by a calibration: one whose charge did not end in time has failed a conversion, which is counted (R215, Table 7.11; log
entry 87). -/
def retireCalibrated (k : Nat) (cause : BitVec 4) (s : State) : State :=
  if cause = 6 then failConversion k cause s else retireSlot k cause s

/-- A calibration applied to all good slots at run time: records replaced at once, failing slots retired (R222, R225). -/
def calibrateWith (f : SlotRaw → CalRec → CalRec × Option (BitVec 4)) (raw : List SlotRaw) (s : State) : State :=
  (List.range 24).foldl (fun t k =>
    match raw.drop k with
    | [] => t
    | r :: _ =>
      if t.tiu.good k then
        let x := t.tiu.slot k
        let y := f r x.cal
        let t := { t with tiu := t.tiu.setSlot k { x with cal := y.1 } }
        match y.2 with
        | some c => retireCalibrated k c t
        | none => t
      else t) s

/-- S10: a full calibration of all 24 slots, every slot re-tested; failing slots are retired at S10 (R220, R223). Without a good vernier
the INL tables of before stay (R233). A slot whose charge did not end in time has failed a conversion (log entry 87). -/
def calibrateAll (p : Option RingPair) (raw : List SlotRaw) (now : BitVec 32) (t : Tiu) : Tiu :=
  let slots := (List.range 24).map (fun k =>
    let y := fullSlot p (raw.getD k default) now (if p.isSome then Slot.reset.cal else (t.slot k).cal)
    match y.2 with
    | some c => { Slot.reset with state := 1, cause := c, cal := y.1 }
    | none => { Slot.reset with cal := y.1 })
  { t with slots := slots, convFail := t.convFail + BitVec.ofNat 16 (slots.filter (fun x => x.cause == 6)).length }

/-! ## The vernier (R230 to R233) -/

/-- core_period in 0.01 ps (R231): 41 666.67 ps on the reference; on the internal RC what 64 cycles of the 32.768 kHz clock, that is
1 953 125 000 ps, give for the core periods counted in them, rounded, a free value where none was counted (log entry 8). -/
def corePeriod (onRef : Bool) (rc free : Nat) : Nat :=
  if onRef then 4166667
  else if rc = 0 then Config.ringOfZeroCount free
  else (roundDiv 195312500000 rc).toNat

/-- A ring period in 0.01 ps: 1024 core periods over the edges counted in them; a count of 0 gives a free value (log entry 8). -/
def ringPeriod (core count free : Nat) : Nat × Nat :=
  if count = 0 then (Config.ringOfZeroCount free, 1) else (1024 * core, count)

/-- The figures of a ring calibration (R231): the core period it used, the ring periods, ta in 0.1 ps and res in 10 fs as published, and
whether both are within limits. -/
structure Rings where
  core : Nat
  pair : RingPair
  ta : BitVec 16
  res : BitVec 16
  ok : Bool
deriving DecidableEq, Repr

/-- R231. -/
def ringsOf (onRef : Bool) (r : RingRaw) (free : Nat) : Rings :=
  let core := corePeriod onRef r.rc free
  let a := ringPeriod core r.countA (free + 1)
  let b := ringPeriod core r.countB (free + 2)
  let num : Int := (a.1 * b.2 : Nat) - (b.1 * a.2 : Nat)
  let den := a.2 * b.2
  { core := core, pair := ⟨a, b⟩,
    ta := BitVec.ofInt 16 (roundDiv a.1 (10 * a.2)), res := BitVec.ofInt 16 (roundDiv num den),
    ok := decide (90000 * a.2 ≤ a.1) && decide (a.1 ≤ 110000 * a.2) &&
          decide (800 * (den : Int) ≤ num) && decide (num ≤ 1200 * (den : Int)) }

/-- A good ring calibration's figures put in use. -/
def Tiu.withRings (t : Tiu) (r : Rings) : Tiu :=
  { t with ring100fs := r.ta, res10fs := r.res, ringA := r.pair.a, ringB := r.pair.b }

/-- The ring figures in use. -/
def Tiu.rings (t : Tiu) : RingPair := ⟨t.ringA, t.ringB⟩

/-- A measured interval less 4 core periods, in 0.01 ps over `den`; the self-test subtracts no input offset (DEDUCED, log entry 68). -/
def selfExcess (r : Rings) (v : VernierCount) : Int := r.pair.interval v - (4 * r.core * r.pair.den : Nat)

/-- The mean lies within ±50 ps (Table 7.12). -/
def selfMeanOk (r : Rings) (vs : List VernierCount) : Bool :=
  decide ((sumI (vs.map (selfExcess r))).natAbs ≤ 5000 * r.pair.den * max 1 vs.length)

/-- Every single result lies within ±50 ps (Table 5.5, S09). -/
def selfEachOk (r : Rings) (vs : List VernierCount) : Bool :=
  vs.all (fun v => decide ((selfExcess r v).natAbs ≤ 5000 * r.pair.den))

/-- The mean deviation in ps, holding at 127 (Table 7.11). -/
def selfDeviation (r : Rings) (vs : List VernierCount) : Nat :=
  holdAt 127 (roundDiv ((sumI (vs.map (selfExcess r))).natAbs : Int) (100 * r.pair.den * max 1 vs.length)).toNat

/-- A vernier fault or failed self-test at run time (R233). -/
def vernierFault (dev : Nat) (s : State) : State :=
  raise 0x0303 (arg dev) { s with tiu := { s.tiu with checkPass := false, checkDev := BitVec.ofNat 7 dev, vernierBad := true } }

/-- A ring calibration (R231): new figures, or a vernier fault. R233 gives the deviation 127 for the ring calibration of a self-test; one of
a calibration job has no measurement of 4 core periods either and shows 127 too, and its good figures are put in use while a failed self-test
still stands (DESIGN CHOICE, log entry 64). -/
def ringCalibrate (raw : RingRaw) (s : State) : State :=
  let r := ringsOf s.clk.onRef raw s.free
  let s := { s with free := s.free + 3 }
  if r.ok then { s with tiu := s.tiu.withRings r } else vernierFault 127 s

/-- The vernier self-test at run time (R232, R233). -/
def selfTestRun (t : SelfTest) (s : State) : State :=
  let r := ringsOf s.clk.onRef t.rings s.free
  let s := { s with free := s.free + 3 }
  if !r.ok then vernierFault 127 s
  else if selfMeanOk r t.intervals then
    { s with tiu := { s.tiu.withRings r with checkPass := true, checkDev := BitVec.ofNat 7 (selfDeviation r t.intervals),
                                             vernierBad := false } }
  else vernierFault (selfDeviation r t.intervals) s

/-! ## Direct test mode (R235 to R237) -/

/-- No lane of the cycle lies between launch and its release. -/
def State.lanesDone (s : State) : Bool :=
  Idx3.all.all (fun p => [Dir.up, .dn].all (fun d => (s.lane p d).phase == .idle || (s.lane p d).phase == .released))

/-- The directions that the launch under way receives (R247). -/
def State.receiving (s : State) : List Dir :=
  if !s.conf.alternating then [.up, .dn]
  else if s.seq.phase == .second then [otherDir (firstDir s.seq.parity)]
  else [firstDir s.seq.parity]

/-- No lane of the launch under way has opened its window yet. No command marks receive-ready, so that a conversion that comes here is taken
as one before it (DEDUCED, log entry 88). -/
def State.beforeReady (s : State) : Bool :=
  Idx3.all.all (fun p => s.receiving.all (fun d => (s.lane p d).phase == .idle || (s.lane p d).phase == .waiting))

/-- No lane lies between receive-ready and its release, so that a SAR may convert and a slot may reset (R204). -/
def State.lanesQuiet (s : State) : Bool := s.lanesDone || s.beforeReady

/-- The slots of a test in progress are given up: free at once, or while a lane listens only at their turn (R204). -/
def freeTestSlots (quiet : Bool) (t : Tiu) : Tiu :=
  { t with slots := t.slots.map (fun x =>
      match x.use with
      | .testStart _ | .testStop _ => { x with use := if quiet then .free else .timeout }
      | .testWait => { x with use := .free }
      | .free | .stamp _ _ _ | .charged _ _ _ _ | .timeout => x) }

/-- Work other than a direct test for which the TIU holds its vote for RUN (Table 14.2). -/
def State.tiuBusy (s : State) : Bool := s.seq.phase != .none || s.seq.job.isSome || s.seq.sweepOn

/-- A test ends with a result of Table 7.13; the interval is that of a result OK. The TIU's vote goes with it. -/
def endTest (res : BitVec 4) (interval : Nat) (s : State) : State :=
  let t := freeTestSlots s.lanesQuiet s.tiu
  let q := t.testSeq + 1
  let s := { s with tiu := { t with test := .armed, testSeq := q, testResult := res,
                                    testTicks := if res = 0 then BitVec.ofNat 40 interval else t.testTicks } }
  let s := raise 0x0304 [BitVec.ofNat 32 (q.toNat * 2 ^ 24 + res.toNat * 2 ^ 16 + interval / 2 ^ 32), BitVec.ofNat 32 interval] s
  if s.tiuBusy then s else voteFor .tiu 2 s

/-- The test slots: the two highest-numbered good ones, when neither is lent nor assigned (R235). -/
def Tiu.testSlots (t : Tiu) : Option (Nat × Nat) :=
  match t.goodDown with
  | a :: b :: _ =>
    if (t.slot a).use = .free && (t.slot b).use = .free && (t.slot a).state != 3 && (t.slot b).state != 3 then some (a, b)
    else none
  | _ => none

/-- The slots that a test in progress holds. -/
def TestPhase.slots : TestPhase → List Nat
  | .armed => []
  | .started hi lo _ => [hi, lo]
  | .converting hi lo _ _ => [hi, lo]

/-- A test in progress holds slots. -/
def Tiu.testing (t : Tiu) : Bool := !t.test.slots.isEmpty

/-- A slot is charged for the test. -/
def SlotUse.isTest : SlotUse → Bool
  | .testStart _ | .testStop _ => true
  | .free | .stamp _ _ _ | .charged _ _ _ _ | .timeout | .testWait => false

/-- The first edge of a measurement (R235, R236, Table 7.13): with the conditions of R235 met the start edge charges the higher test slot
and the lower one waits. -/
def beginTest (start stop : Bool) (q : Nat) (s : State) : State :=
  if !s.clk.onRef then endTest 5 0 s
  else
    match s.tiu.testSlots with
    | none => endTest 4 0 s
    | some (hi, lo) =>
      if start && stop then endTest 2 0 s
      else if stop then endTest 1 0 s
      else
        let t := (s.tiu.setSlot hi { s.tiu.slot hi with use := .testStart q }).setSlot lo { s.tiu.slot lo with use := .testWait }
        voteFor .tiu 0 { s with tiu := { t with test := .started hi lo q } }

/-- TST_EDGE: rising edges on the test pads in one grid unit (R236, R237). Without the reference the result is NOREF, which stands highest in
Table 7.13. A measurement begins only when both pads have been low since the previous result (R235). -/
def execTstEdge (start stop : Bool) (x : TstSeen) (s : State) : Host.Outcome State Fault Refusal :=
  .next (if !(s.cycling && s.awake) || !(start || stop) then s
  else
    match s.tiu.test with
    | .armed => if x.lowSince then beginTest start stop x.q s else s
    | .started hi lo q0 =>
      if !stop then s
      else if !s.clk.onRef then endTest 5 0 s
      else if x.q < q0 + 8 then endTest 2 0 s
      else
        { s with tiu := { s.tiu.setSlot lo { s.tiu.slot lo with use := .testStop x.q } with test := .converting hi lo none none } }
    | .converting _ _ _ _ => s)

/-- TEST_TIMEOUT: no stop edge within 0.5 s gives LONG. -/
def execTestTimeout (s : State) : Host.Outcome State Fault Refusal :=
  .next (match s.tiu.test with
    | .started _ _ _ => endTest 3 0 s
    | .armed => s
    | .converting _ _ _ _ => s)

/-- Both conversions of a test are in hand: the result (R236). -/
def settleTest (s : State) : State :=
  if s.tiu.slots.any (fun x => x.use.isTest) then s
  else
    match s.tiu.test with
    | .converting _ _ (some a) (some b) =>
      let i := (b + 2 ^ 39 - a) % 2 ^ 39
      if i < 65536 then endTest 2 0 s else endTest 0 i s
    | .converting _ _ _ _ => endTest 6 0 s
    | .armed => s
    | .started _ _ _ => s

/-- A conversion of the test: its stamp, or the slot's retirement (R236 SLOT). -/
def testConversion (k : Nat) (isStart : Bool) (r : Reading) (coarseEnd : Nat) (chargeOk : Bool) (s : State) : State :=
  match s.tiu.test with
  | .converting hi lo a b =>
    match checkCause r 0 none chargeOk with
    | some c => settleTest (failConversion k c s)
    | none =>
      let v := some (stampOf coarseEnd r.x)
      let t := s.tiu.setSlot k { s.tiu.slot k with use := .free }
      settleTest { s with tiu := { t with test := if isStart then .converting hi lo v b else .converting hi lo a v } }
  | .armed => s
  | .started _ _ _ => s

/-! ## Conversions of a cycle (R204, R214, R215, R226) -/

/-- The launch edge of a direction in the cycle under way: the second one serves the later direction of an alternating cycle. -/
def State.launchOf (s : State) (d : Dir) : Nat :=
  if s.conf.alternating && d != firstDir s.seq.parity then s.tiu.launch2.toNat else s.tiu.launch1.toNat

/-- A slot holds a charge that its SAR is to convert. -/
def Tiu.charged (t : Tiu) (k : Nat) : Bool :=
  match (t.slot k).use with
  | .charged _ _ _ _ => true
  | .testStart _ | .testStop _ => (match t.test with
    | .converting _ _ _ _ => true
    | .armed | .started _ _ _ => false)
  | .free | .stamp _ _ _ | .timeout | .testWait => false

/-- It is a slot's turn: no receive lane listens, and its SAR has no charged slot of a lower number left (R201, R204). -/
def State.sarTurn (s : State) (k : Nat) : Bool :=
  s.lanesQuiet && ((List.range 24).filter (fun j => j / 4 == k / 4 && decide (j < k))).all (fun j => !s.tiu.charged j)

/-- The slots that ended with TIMEOUT are reset at their turn: those of the SAR below a slot (R202). -/
def Tiu.resetBelow (t : Tiu) (k : Nat) : Tiu :=
  { t with slots := (List.range 24).map (fun j =>
      let x := t.slot j
      if j / 4 = k / 4 && decide (j < k) && x.use == .timeout then { x with use := .free } else x) }

/-- All of them, once every conversion of the launch is done. -/
def Tiu.resetAll (t : Tiu) : Tiu :=
  { t with slots := t.slots.map (fun x => if x.use == .timeout then { x with use := .free } else x) }

/-- A conversion of a pair: its stamp published as OK, or the slot's failure published and both directions discarded (R214, R226). -/
def pairConversion (p : Idx3) (d : Dir) (n q k : Nat) (r : Reading) (coarseEnd : Nat) (chargeOk : Bool) (s : State) : State :=
  let rel := relTicks (stampOf coarseEnd r.x) (s.launchOf d)
  match checkCause r rel (some q) chargeOk with
  | some c =>
    let s := failConversion k c { s with tiu := publish p d ⟨n, k, .failed, some rel⟩ s.tiu }
    let t := s.tiu.paths.get p
    { s with tiu := { s.tiu with paths := s.tiu.paths.set p { t with failed := true } } }
  | none =>
    let t := s.tiu.setSlot k { s.tiu.slot k with use := .free }
    { s with tiu := publish p d ⟨n, k, .ok, some rel⟩ t }

/-- CONVERSION_DONE: a SAR conversion of a charged slot at its turn is computed and checked. -/
def execConversionDone (slot : Fin 24) (code : BitVec 16) (coarseEnd : BitVec 24) (chargeOk : Bool) (s : State) :
    Host.Outcome State Fault Refusal :=
  .next (let k := slot.val
    if !(s.tiu.charged k && s.sarTurn k) then s
    else
      let x := s.tiu.slot k
      let r := x.cal.read code.toNat s.free
      let s := { s with free := s.free + 1, tiu := s.tiu.resetBelow k }
      match x.use with
      | .charged p d n q => pairConversion p d n q k r coarseEnd.toNat chargeOk s
      | .testStart _ => testConversion k true r coarseEnd.toNat chargeOk s
      | .testStop _ => testConversion k false r coarseEnd.toNat chargeOk s
      | .free | .stamp _ _ _ | .timeout | .testWait => s)

end Sys2Proof.Machine
end

