-- ==== Sys2Proof/Machine/Media.lean ====
section
/-!
DEFINITION. Properties of the medium (R285, R342 to R344): density, enthalpy, viscosity and speed of sound against temperature in
0.0001 °C, for water, the glycols of Table 12.3, and the custom table of Table 4.15.
-/
namespace Sys2Proof.Machine

/-- Linear interpolation in a table of ascending points, rounded to the nearest; the end values beyond the ends. -/
def interp : List (Int × Int) → Int → Int
  | [], _ => 0
  | [p], _ => p.2
  | p :: q :: rest, x =>
    if x ≤ p.1 then p.2
    else if x < q.1 then roundDivI (p.2 * (q.1 - p.1) + (q.2 - p.2) * (x - p.1)) (q.1 - p.1)
    else interp (q :: rest) x

/-- A column at 0, 10, … 150 °C as a table in 0.0001 °C. -/
def column (xs : List Int) : List (Int × Int) :=
  (List.zip (List.range xs.length) xs).map (fun x => ((100000 * x.1 : Nat), x.2))

/-! ## Water (Tables 9.4, 12.2) -/

def waterSound : List (Int × Int) := column
  [1402400, 1447300, 1482300, 1509100, 1528900, 1542600, 1551300, 1555100,
   1554700, 1550400, 1543300, 1532800, 1519600, 1503900, 1486000, 1466000]

def waterNu : List (Int × Int) := column
  [1792000, 1307000, 1004000, 801000, 658000, 554000, 475000, 413000,
   365000, 326000, 295000, 268000, 247000, 229000, 214000, 201000]

def waterRho : List (Int × Int) := column
  [1000600000, 1000400000, 998900000, 996300000, 992900000, 988700000, 983900000, 978400000,
   972500000, 966000000, 959100000, 951600000, 943800000, 935600000, 926900000, 917900000]

/-- Enthalpy in mJ/kg. -/
def waterH : List (Int × Int) := column
  [1600000, 43600000, 85500000, 127300000, 169100000, 210900000, 252700000, 294600000,
   336500000, 378500000, 420500000, 462600000, 504900000, 547300000, 589900000, 632800000]

/-! ## Glycols (Table 12.3) -/

/-- One row of Table 12.3, each coefficient as an integer: Tmin in °C; d0, d1, d2 in 1e-4; c0 in 1, c1 in 0.1; a in 0.001, b in
0.1; s0, s1, s2 in 0.001. -/
structure Glycol where
  tmin : Int
  d0 : Int
  d1 : Int
  d2 : Int
  c0 : Int
  c1 : Int
  a : Int
  b : Int
  s0 : Int
  s1 : Int
  s2 : Int
deriving DecidableEq, Repr

/-- Table 12.3. -/
def glycolOf : Nat → Option Glycol
  | 0x11 => some ⟨-5, 10220000, -2800, -22, 3900, 19, -3109, 4677, 1540000, 3600, -40⟩
  | 0x12 => some ⟨-11, 10330000, -3300, -20, 3750, 24, -3062, 4993, 1580000, 2900, -35⟩
  | 0x13 => some ⟨-19, 10440000, -3800, -18, 3560, 29, -3008, 5415, 1620000, 2200, -30⟩
  | 0x14 => some ⟨-20, 10520000, -4300, -16, 3360, 34, -2958, 5796, 1650000, 1500, -25⟩
  | 0x21 => some ⟨-7, 10300000, -2600, -24, 3800, 16, -3019, 4187, 1535000, 3800, -42⟩
  | 0x22 => some ⟨-14, 10450000, -3200, -22, 3580, 22, -3017, 4511, 1570000, 3100, -37⟩
  | 0x23 => some ⟨-20, 10600000, -3800, -20, 3350, 28, -2867, 4759, 1600000, 2400, -32⟩
  | 0x24 => some ⟨-20, 10740000, -4400, -18, 3120, 34, -2772, 4990, 1630000, 1700, -27⟩
  | _ => none

/-- The fixed-point unit of the exponential. -/
def expUnit : Int := 2 ^ 128

/-- Taylor terms of exp x − 1 in fixed point, from a term `t` with number `k` upward. -/
def expTerms (x : Int) : Nat → Nat → Int → Int
  | 0, _, _ => 0
  | n + 1, k, t => let u := t * x / expUnit / k; u + expTerms x n (k + 1) u

/-- A square repeated. -/
def squareTimes : Nat → Int → Int
  | 0, y => y
  | n + 1, y => squareTimes n (y * y / expUnit)

/-- exp(num / den) in fixed point: 24 terms at 1/256 of the argument, then eight squarings (log entry 17). -/
def expFix (num : Int) (den : Nat) : Int :=
  let x := num * expUnit / den / 256
  squareTimes 8 (expUnit + expTerms x 24 1 expUnit)

/-- Viscosity: exp(a + b / (t + 100)) mm²/s in 1e-6 (R343). -/
def Glycol.nu (g : Glycol) (t : Int) : Int :=
  let d := t + 1000000
  roundDiv (1000000 * expFix (g.a * d + g.b * 1000000) (1000 * d).toNat) expUnit.toNat

/-- Density in 1e-6 kg/m³ (R343). -/
def Glycol.rho (g : Glycol) (t : Int) : Int := roundDiv (g.d0 * 100000000 + g.d1 * t * 10000 + g.d2 * t * t) 1000000

/-- Enthalpy in mJ/kg (R343). -/
def Glycol.enthalpy (g : Glycol) (t : Int) : Int := roundDiv ((20 * g.c0 * t * 10000 + g.c1 * t * t) * 1000) 2000000000

/-- Speed of sound in mm/s (R343). -/
def Glycol.sound (g : Glycol) (t : Int) : Int := roundDiv (g.s0 * 100000000 + g.s1 * t * 10000 + g.s2 * t * t) 100000000

/-! ## The medium of the image -/

/-- A column of the custom table. -/
def customColumn (ps : List MediumPoint) (f : MediumPoint → Int) : List (Int × Int) := ps.map (fun p => (100 * p.t100, f p))

/-- The valid range of the medium in 0.0001 °C (R344). -/
def Conf.mediumRange (c : Conf) : Int × Int :=
  if c.medium = 0xF0 then
    (100 * ((c.custom.head?.map MediumPoint.t100).getD 0), 100 * ((c.custom.getLast?.map MediumPoint.t100).getD 0))
  else
    match glycolOf c.medium with
    | some g => (10000 * g.tmin, 1200000)
    | none => (0, 1500000)

/-- A temperature outside the medium's valid range. -/
def Conf.outOfRange (c : Conf) (t : Int) : Bool := decide (t < c.mediumRange.1) || decide (c.mediumRange.2 < t)

/-- A property of the medium at a temperature held within its range (R344). -/
def Conf.property (c : Conf) (water : List (Int × Int)) (g : Glycol → Int → Int) (custom : MediumPoint → Int) (t : Int) : Int :=
  let t := clampI c.mediumRange.1 c.mediumRange.2 t
  if c.medium = 0xF0 then interp (customColumn c.custom custom) t
  else
    match glycolOf c.medium with
    | some x => g x t
    | none => interp water t

/-- rho_e6. -/
def Conf.rho (c : Conf) (t : Int) : Int := c.property waterRho Glycol.rho (fun p => p.rho) t

/-- h_mj. -/
def Conf.enthalpy (c : Conf) (t : Int) : Int := c.property waterH Glycol.enthalpy (fun p => 1000 * p.hJkg) t

/-- nu_e6. -/
def Conf.nu (c : Conf) (t : Int) : Int := c.property waterNu Glycol.nu (fun p => p.nu) t

/-- c_table_mm_s. -/
def Conf.sound (c : Conf) (t : Int) : Int := c.property waterSound Glycol.sound (fun p => p.c) t

end Sys2Proof.Machine
end

