-- ==== Sys2Proof/Machine/Fe.lean ====
section
/-!
DEFINITION. The flow engine (chapter 09): transit times, pair results, path and pipe states, profile correction, cutoff and flow.
-/
namespace Sys2Proof.Machine

/-! ## Transit times and pair results (R271 to R276, Table 9.1) -/

/-- The stamps of a direction that its slots gave as OK: number and rel_ticks (R214). -/
def okStamps (xs : List Stamp) : List (Nat × Nat) :=
  xs.filterMap (fun x => if x.result = .ok then x.rel.map (fun r => (x.k, r)) else none)

/-- One direction: the stamps taken back to the first wave (R271). -/
def toFirstWave (hq flipChip : Nat) (stamps : List (Nat × Nat)) : List Int :=
  stamps.map (fun x => (x.2 : Int) - ((2 * flipChip + 4 + x.1) * hq * 8192 : Nat))

/-- t_x256 of a direction (R272). -/
def transit256 (es : List Int) (delay : Nat) : Int :=
  roundDiv (256 * sumI es) (max 1 es.length) - ((256 * delay : Nat) : Int)

/-- max − min of a list. -/
def spreadOf : List Int → Nat
  | [] => 0
  | x :: xs => (xs.foldl max x - xs.foldl min x).toNat

/-- geo_um in 1/65536 µm (R275), the quotient rounded to the nearest one (DESIGN CHOICE, log entry 101). -/
def PathConf.geo (c : PathConf) : Int := roundDiv ((c.lengthUm * c.lengthUm * 65536 : Nat) : Int) (2 * max 1 c.axialUm)

/-- What a pair measures. -/
structure PairFigures where
  up : Int
  dn : Int
  dt : Int
  spread : Nat
  v : Int
  c : Int
deriving DecidableEq, Repr

/-- The figures of a pair from its stamps; velocity and sound speed are 0 where a transit time is 0 or less (R276). -/
def pairFigures (c : Conf) (p : Idx3) (ups dns : List (Nat × Nat)) : PairFigures :=
  let x := c.paths.get p
  let eu := toFirstWave c.hq (c.flipChip p) ups
  let ed := toFirstWave c.hq (c.flipChip p) dns
  let u := transit256 eu x.delayTicks
  let d := transit256 ed x.delayTicks
  let dt := u - d - 256 * x.zeroOffset
  let ok := decide (0 < u) && decide (0 < d)
  { up := u, dn := d, dt := dt, spread := max (spreadOf eu) (spreadOf ed),
    v := if ok then roundDivI (x.geo * 1000 * 786432000000 * dt * 256) (65536 * u * d) else 0,
    c := if ok then roundDivI (x.lengthUm * (u + d) * 256 * 786432000) (2 * u * d) else 0 }

/-- The checks of Table 9.1 below AFE, in the order of the table. -/
def PairFigures.result (hq : Nat) (f : PairFigures) : PairResult :=
  if hq * 1024 < f.spread then .spread
  else if f.up ≤ 0 || f.dn ≤ 0 || f.c < 800000 || 2200000 < f.c then .sound
  else if f.v < -15000000000 || 15000000000 < f.v then .velocity
  else .valid

/-- The pair result of a path in the cycle, from the top of Table 9.1, and the figures where both directions have stamps. -/
def pairOf (s : State) (p : Idx3) : PairResult × Option PairFigures :=
  let t := s.tiu.paths.get p
  if !s.seq.fired.get p || s.seq.kind == .suspended then (.notFired, none)
  else if t.failed then (.conversion, none)
  else if (s.lane p .up).result != .ok || (s.lane p .dn).result != .ok then (.afe, none)
  else
    let f := pairFigures s.conf p (okStamps t.dirs.up.stamps) (okStamps t.dirs.dn.stamps)
    (f.result s.conf.hq, some f)

/-! ## Path states (R290 to R293) -/

/-- Code of a path state (Table 9.5). -/
def PathState.code : PathState → Nat
  | .notUsed => 0
  | .valid => 1
  | .held => 2
  | .invalid => 3
  | .noSlots => 4

/-- Code of a pair result (Table 9.1). -/
def PairResult.code : PairResult → Nat
  | .valid => 0
  | .afe => 1
  | .conversion => 2
  | .spread => 3
  | .sound => 4
  | .velocity => 5
  | .notFired => 6

/-- Code of a pipe state (Table 9.8). -/
def PipeState.code : PipeState → Nat
  | .notUsed => 0
  | .valid => 1
  | .held => 2
  | .degraded => 3
  | .invalid => 4

/-- A path's record replaced. -/
def setPath (p : Idx3) (f : FePath) (s : State) : State := { s with fe := { s.fe with paths := s.fe.paths.set p f } }

/-- A path enters a state: the event, and the latched flag on entering INVALID or NO_SLOTS (R300). -/
def enterPath (p : Idx3) (st : PathState) (s : State) : State :=
  let f := s.fe.paths.get p
  if f.state = st then s
  else
    let s := raise 0x0501 (arg (p.num * 256 + st.code)) (setPath p { f with state := st } s)
    when (st == .invalid || st == .noSlots) (occur flagPath) s

/-- A polarity lock set or cleared (R188, R196). -/
def setLock (p : Idx3) (d : Dir) (l : Option Bool) (s : State) : State :=
  let x := s.lane p d
  if x.lock = l then s
  else
    let was := match x.lock with | some h => 2 * h.toNat | none => 0
    let word := p.num * 256 + (match d with | .up => 0 | .dn => 128) + (match l with | some h => 2 * h.toNat + 1 | none => was)
    raise 0x0406 (arg word) (setLane p d { x with lock := l } s)

/-- What a path loses when it is marked invalid: locks, reference lead counts, windows, thresholds, held value and parity means
(R181, R188, R197, R292, Table 7.5). -/
def forgetPath (p : Idx3) (s : State) : State :=
  let s := setLock p .dn none (setLock p .up none s)
  let a := s.afe.get p
  let t := s.tiu.paths.get p
  let f := s.fe.paths.get p
  setPath p { f with v0 := none, v1 := none, dts0 := [], dts1 := [], oneParity := false, v := 0, vUm := 0 }
    { s with afe := s.afe.set p { a with dirs := a.dirs.map (fun x =>
               { x with thr := BitVec.ofNat 8 s.conf.floorCode, refLead := none }) },
             tiu := { s.tiu with paths := s.tiu.paths.set p { t with window := .acquisition, miss := 0 } } }

/-- The held value: the mean of the last VALID pair of each parity, or the one there is (R291). -/
def FePath.held (f : FePath) : Option Int :=
  match f.v0, f.v1 with
  | some a, some b => some (roundDiv (a + b) 2)
  | some a, none => some a
  | none, some b => some b
  | none, none => none

/-- Only one parity has a value. -/
def FePath.single (f : FePath) : Bool := f.v0.isSome != f.v1.isSome

/-- The last 32 differences with one more (R278). -/
def keep32 (xs : List Int) (x : Int) : List Int := (xs ++ [x]).drop (xs.length + 1 - 32)

/-- A direction's lock, reference lead count and skip counter after a VALID pair (R188, R189). -/
def settleLead (p : Idx3) (d : Dir) (s : State) : State :=
  let x := s.lane p d
  let s := match x.lock, x.flip with
    | none, some f => setLock p d (some f.1) s
    | _, _ => s
  let x := s.lane p d
  let skip := match x.refLead with
    | some r => r != x.lead
    | none => false
  setLane p d { x with refLead := some x.lead, skips := if skip then x.skips + 1 else x.skips } s

/-- The window after a pair that both ends measured (Table 7.5). An invalid pair in acquisition, where there is no old flip_pred_q to track
on, leaves acquisition and miss_count 0 as they are (DEDUCED, log entry 69). -/
def TiuPath.after (t : TiuPath) (valid : Bool) (flipUp flipDn : Nat) : TiuPath :=
  if valid then
    { t with window := .tracked, miss := 0,
             dirs := ⟨{ t.dirs.up with flipPred := flipUp }, { t.dirs.dn with flipPred := flipDn }⟩ }
  else
    match t.window with
    | .acquisition => { t with miss := 0 }
    | .tracked => if t.miss < 3 then { t with miss := t.miss + 1 } else { t with window := .acquisition, miss := 0 }

/-- The flip edge measured in a direction. -/
def AfeDir.flipEdge (x : AfeDir) : Nat := (x.flip.map Prod.snd).getD 0

/-- A VALID pair in the path's record. -/
def FePath.accept (f : FePath) (parity : Bool) (begin : BitVec 32) (g : PairFigures) : FePath :=
  let f := if f.state = .invalid then { f with v0 := none, v1 := none } else f
  let f := if parity then { f with v1 := some g.v, dts1 := keep32 f.dts1 g.dt }
           else { f with v0 := some g.v, dts0 := keep32 f.dts0 g.dt }
  { f with tUp16 := BitVec.ofInt 40 (roundDiv g.up 16), tDn16 := BitVec.ofInt 40 (roundDiv g.dn 16),
           dt16 := BitVec.ofInt 32 (roundDiv g.dt 16), c := BitVec.ofInt 24 g.c, v := g.v, oneParity := false,
           lastBegin := some begin, holdAge := 0, sample := some (g.dt, g.v) }

/-- LF periods since the beginning of the cycle of the last VALID pair. -/
def FePath.since (f : FePath) (begin : BitVec 32) : Nat :=
  match f.lastBegin with
  | some b => (begin - b).toNat
  | none => 0

/-- hold_age_100ms, holding at 65 535 (Table 9.7), cut to whole 100 ms (DESIGN CHOICE, log entry 93). -/
def FePath.ageAt (f : FePath) (begin : BitVec 32) : BitVec 16 :=
  if f.holdAge = 0xFFFF then 0xFFFF else BitVec.ofNat 16 (holdAt 65535 (f.since begin * 10 / 32768))

/-- The hold has run out at a pair of a cycle that began then (R292). -/
def FePath.expired (f : FePath) (hold : Nat) (begin : BitVec 32) : Bool := decide (hold * 32768 ≤ f.since begin)

/-- The state that a pair which is not VALID leaves a path in (R290, R292, R293). -/
def nextPathState (r : PairResult) (lacks : Bool) (hold : Nat) (begin : BitVec 32) (f : FePath) : PathState :=
  if f.state = .noSlots then .noSlots
  else if r = .notFired && lacks then .noSlots
  else if f.held.isNone || f.state = .invalid then .invalid
  else if r = .conversion then .held
  else if f.expired hold begin then .invalid
  else .held

/-- A path is marked invalid by the hold rule, or loses its slots (R209, R292). -/
def losePath (p : Idx3) (st : PathState) (s : State) : State := enterPath p st (forgetPath p s)

/-- One path's step 9 (R271 to R278, R290 to R293). A pair without figures shows spread_ticks 0 (DESIGN CHOICE, log entry 93). -/
def flowPath (p : Idx3) (s : State) : State :=
  if !s.pathUsed p then s
  else
    let r := pairOf s p
    let f := s.fe.paths.get p
    let sp := match r.2 with
      | some g => BitVec.ofNat 16 (holdAt 65535 g.spread)
      | none => 0
    let f := { f with pair := r.1, pairBegin := s.seq.begin, spread := sp, sample := none }
    match r.1, r.2 with
    | .valid, some g =>
      let t := s.tiu.paths.get p
      let s := setPath p (f.accept s.seq.parity s.seq.begin g) s
      let s := settleLead p .dn (settleLead p .up s)
      let w := t.after true (s.lane p .up).flipEdge (s.lane p .dn).flipEdge
      let s := { s with tiu := { s.tiu with paths := s.tiu.paths.set p w } }
      let s := enterPath p .valid s
      let f := s.fe.paths.get p
      setPath p { f with vUm := BitVec.ofInt 32 (roundDiv f.v 1000) } s
    | _, _ =>
      let t := s.tiu.paths.get p
      let s := if r.1 = .conversion || r.1 = .notFired then s
               else { s with tiu := { s.tiu with paths := s.tiu.paths.set p (t.after false 0 0) } }
      let st := nextPathState r.1 (s.lacksSlots p) s.conf.holdS s.seq.begin f
      let v := if st = .held then f.held.getD 0 else 0
      let f := { f with invalidCount := f.invalidCount + 1, holdAge := f.ageAt s.seq.begin, v := v,
                        vUm := BitVec.ofInt 32 (roundDiv v 1000), oneParity := st == .held && f.single }
      let s := setPath p f s
      let lost := (st == .invalid || st == .noSlots) && f.state != st
      let s := if lost then losePath p st s else enterPath p st s
      when (lost && st == .noSlots) setFault s

/-! ## Pipes (R279 to R288, R294) -/

/-- Table 9.3: the profile columns. -/
inductive Column where
  | diametral | axial | two | three | outer
deriving DecidableEq, Repr

/-- The Reynolds numbers of Table 9.3. -/
def profileRe : List Int := [0, 2000, 4000, 10000, 30000, 100000, 300000, 1000000, 10000000]

/-- Table 9.3. -/
def Column.points (c : Column) : List (Int × Int) :=
  List.zip profileRe (match c with
    | .diametral => [750000, 750000, 905000, 925000, 934000, 942000, 947000, 952000, 961000]
    | .axial => [860000, 862000, 955000, 965000, 972000, 978000, 981000, 984000, 988000]
    | .two => [1000000, 1000000, 996000, 995000, 995000, 996000, 997000, 998000, 999000]
    | .three => [1000000, 1000000, 999000, 998000, 998000, 999000, 999000, 1000000, 1000000]
    | .outer => [1500000, 1500000, 1180000, 1140000, 1120000, 1100000, 1090000, 1080000, 1070000])

/-- Table 9.2: standard weights of the pipe's paths and the column, for the paths in use. A one-path pipe's column is R282's. -/
def standardRow (inUse : List Bool) (single : Column) : List Int × Column :=
  match inUse with
  | [true, true, true] => ([2500, 5000, 2500], .three)
  | [false, true, true] => ([0, 5000, 5000], .three)
  | [true, true, false] => ([5000, 5000, 0], .three)
  | [true, false, true] => ([5000, 0, 5000], .outer)
  | [false, true, false] => ([0, 10000, 0], .diametral)
  | [true, false, false] => ([10000, 0, 0], .outer)
  | [false, false, true] => ([0, 0, 10000], .outer)
  | [true, true] => ([5000, 5000], .two)
  | [true, false] => ([10000, 0], .two)
  | [false, true] => ([0, 10000], .two)
  | _ => (List.replicate inUse.length 10000, single)

/-- R282: the column of a one-path pipe. -/
def singleColumn (c : Conf) (pipe : Idx3) (paths : List Idx3) : Column :=
  match paths with
  | p :: _ => if 2 * (c.pipes.get pipe).diameterUm ≤ (c.paths.get p).axialUm then .axial else .diametral
  | [] => .diametral

/-- The custom weights of a pipe's paths, none when all weight fields are 0 (R279). -/
def PipeConf.weights (c : PipeConf) (n : Nat) : Option (List Int) :=
  if c.w1 = 0 && c.w2 = 0 && c.w3 = 0 then none else some ([(c.w1 : Int), c.w2, c.w3].take n)

/-- A path counts for its pipe (R280). -/
def State.inUse (s : State) (p : Idx3) : Bool :=
  match (s.fe.paths.get p).state with
  | .valid => true
  | .held => true
  | .notUsed => false
  | .invalid => false
  | .noSlots => false

/-- Weights masked by the paths in use. -/
def maskWeights (ws : List Int) (use : List Bool) : List Int := (List.zip ws use).map (fun x => if x.2 then x.1 else 0)

/-- How a pipe combines its paths: weights with their sum, the factor's table (none for a factor of 1), and the state (R280 to R282,
Table 9.6). -/
structure Combination where
  weights : List Int
  total : Int
  table : Option (List (Int × Int))
  state : PipeState
  renorm : Bool
deriving DecidableEq, Repr

/-- The factor table under a profile_select, given the built-in column. -/
def PipeConf.factorTable (c : PipeConf) (col : Column) : Option (List (Int × Int)) :=
  if c.profile = 1 then some (c.table.map (fun x => ((x.1 : Int), (x.2 : Int))))
  else if c.profile = 2 then none
  else some col.points

/-- The combination of a pipe in this cycle. -/
def combine (s : State) (pipe : Idx3) (paths : List Idx3) : Combination :=
  let c := s.conf.pipes.get pipe
  let use := paths.map s.inUse
  let single := singleColumn s.conf pipe paths
  let full := use.all id
  let allValid := paths.all (fun p => (s.fe.paths.get p).state == .valid)
  match c.weights paths.length with
  | some ws =>
    let w := maskWeights ws use
    let t := sumI w
    { weights := w, total := t, table := c.factorTable (standardRow (use.map (fun _ => true)) single).2,
      state := if t = 0 then .invalid else if full then (if allValid then .valid else .held) else .degraded,
      renorm := !full && t != 0 }
  | none =>
    let row := standardRow use single
    { weights := row.1, total := 10000,
      table := if full then c.factorTable row.2 else some row.2.points,
      state := if !use.any id then .invalid else if full then (if allValid then .valid else .held) else .degraded,
      renorm := false }

/-- factor(x) of R283. -/
def factorAt (t : Option (List (Int × Int))) (x : Int) : Int :=
  match t with
  | some ps => interp ps x
  | none => 1000000

/-- The loop whose flow-side sensor gives a pipe's temperature (R284). -/
def State.pipeLoop (s : State) (pipe : Idx3) : LoopId :=
  match s.conf.loopB with
  | some b => if b.pipe = pipe && s.conf.loopA.pipe != pipe then .b else .a
  | none => .a

/-- A loop's settings; loop B's are loop A's where it does not exist. -/
def State.loopConf (s : State) : LoopId → LoopConf
  | .a => s.conf.loopA
  | .b => s.conf.loopB.getD s.conf.loopA

/-- Supply and return sensor of a loop, as 0 to 3 for TS1 to TS4 (Table 4.16). -/
def State.sensorsOf (s : State) (l : LoopId) : Nat × Nat :=
  let c := s.loopConf l
  let base := match l with | .a => 0 | .b => 2
  if c.supplyIsSecond then (base + 1, base) else (base, base + 1)

/-- The flow-side sensor of a loop (R284, R340). -/
def State.flowSensor (s : State) (l : LoopId) : Nat :=
  if (s.loopConf l).flowInSupply then (s.sensorsOf l).1 else (s.sensorsOf l).2

/-- A sensor by number. -/
def State.sensor (s : State) (n : Nat) : Sensor := s.temp.sensors.getD n Sensor.reset

/-- A sensor without a usable state: NONE or FAULT (R332, Table 12.1). -/
def Sensor.out (x : Sensor) : Bool := x.state == .none || x.state == .fault

/-- t_flow of a pipe in 0.0001 °C, and whether it is substituted (R284). -/
def State.tFlow (s : State) (pipe : Idx3) : Int × Bool :=
  let x := s.sensor (s.flowSensor (s.pipeLoop pipe))
  if x.out then (if x.good then x.t.toInt else 200000, true) else (x.t.toInt, false)

/-- area_um2 (R288): π to 40 digits. -/
def area (d : Nat) : Int :=
  roundDiv ((31415926535897932384626433832795028841972 * d * d : Nat) : Int) (4 * 10 ^ 40)

/-- agate_corr_ppm of a pipe in this cycle (R286). -/
def State.corrOf (s : State) (pipe : Idx3) : Int :=
  if s.seq.kind == .sweep || !s.ag.inUse then 0 else (s.ag.pipes.get pipe).corr

/-- The cutoff state after a mean velocity (R287). -/
def nextCutoff (was : Bool) (v : Int) (cutoff : Nat) : Bool :=
  if 5 * (cutoff * 1000 : Nat) ≤ 4 * v.natAbs then false
  else if v.natAbs < cutoff * 1000 then true
  else was

/-- A change of a cutoff state counted in its hour (R300, R540). -/
def FePipe.countChange (f : FePipe) (now : BitVec 32) : FePipe :=
  match f.hourAt with
  | none => { f with hourAt := some now, hourCount := 1 }
  | some t =>
    if 3600 ≤ (now - t).toNat then { f with hourAt := some now, hourCount := 1, hourClosed := f.hourClosed ++ [f.hourCount] }
    else { f with hourCount := f.hourCount + 1 }

/-- The temperature check's counters and bit (R297, R298): none when no check is taken. -/
def State.soundDev (s : State) (paths : List Idx3) (t : Int × Bool) : Option (Int × Nat × Int) :=
  let cs := (paths.filter (fun p => (s.fe.paths.get p).state == .valid)).map (fun p => ((s.fe.paths.get p).c.toNat : Int))
  if t.2 || cs.isEmpty then none
  else
    let c := s.conf.sound t.1
    some (sumI cs - c * cs.length, cs.length, c)

/-- The counters after a check of deviation num / n against c. -/
def FePipe.check (f : FePipe) (x : Option (Int × Nat × Int)) : FePipe :=
  match x with
  | none => f
  | some (num, n, c) =>
    let f := { f with cDev := BitVec.ofInt 16 (roundDiv num (100 * max 1 n)) }
    let beyond := decide (c * n < 100 * num) || decide (c * n < -(100 * num))
    let inside := decide (200 * num ≤ c * n) && decide (-(200 * num) ≤ c * n)
    let f := { f with beyond := if beyond then f.beyond + 1 else 0, inside := if inside then f.inside + 1 else 0 }
    if !f.implausible && 64 ≤ f.beyond then { f with implausible := true }
    else if f.implausible && 64 ≤ f.inside then { f with implausible := false }
    else f

/-- The flow of a pipe: v_w, the two factor lookups, the mean velocity, the cutoff and q (R280, R283, R287, R288). -/
def flowOf (s : State) (pipe : Idx3) (paths : List Idx3) (k : Combination) (t : Int) (f : FePipe) : FePipe :=
  let c := s.conf.pipes.get pipe
  let vs := paths.map (fun p => (s.fe.paths.get p).v)
  let vw := roundDivI (sumI ((List.zip k.weights vs).map (fun x => x.1 * x.2))) k.total
  let nu := s.conf.nu t
  let re0 := Int.fdiv (vw.natAbs * c.diameterUm) (1000 * nu)
  let re := Int.fdiv (re0 * factorAt k.table re0) 1000000
  let kp := factorAt k.table re
  let corr := s.corrOf pipe
  let vm := roundDiv (vw * kp * (1000000 + corr)) 1000000000000
  let cut := nextCutoff f.cutoff vm c.cutoffUmS
  { f with v := vm, re := BitVec.ofInt 32 re, k := BitVec.ofInt 24 kp, corr := corr, cutoff := cut,
           q := if cut then 0 else roundDiv (vm * area c.diameterUm) 1000000000 }

/-- A pipe's record replaced. -/
def setPipe (p : Idx3) (f : FePipe) (s : State) : State := { s with fe := { s.fe with pipes := s.fe.pipes.set p f } }

/-- The event of a changed pipe state (R300). -/
def logPipe (p : Idx3) (old new : PipeState) (s : State) : State :=
  if old = new then s
  else when (new == .invalid) (occur flagPipe) (raise 0x0502 (arg (p.num * 256 + new.code)) s)

/-- The event of a changed "temperature implausible" bit (R298). -/
def logImplausible (p : Idx3) (old new : Bool) (s : State) : State :=
  if old = new then s
  else when new (occur flagPlausibility) (raise 0x0504 (arg (p.num * 256 + new.toNat)) s)

/-- A pipe's record from the states of its paths: state, weights, velocity and flow (R280 to R288, R294). Table 9.8 gives an INVALID pipe
q_nl_s 0; that v_mean_um_s, reynolds, k_ppm and agate_corr_ppm are 0 with it is a DESIGN CHOICE (log entry 93). -/
def pipeRecord (p : Idx3) (s : State) : FePipe :=
  let paths := s.pipePaths p
  let t := s.tFlow p
  let k := combine s p paths
  let use := if k.state = .invalid then 0 else bitsOf 3 (paths.map s.inUse)
  let f := { s.fe.pipes.get p with state := k.state, renorm := k.renorm, inUse := use, substituted := t.2,
                                   tFlow100 := BitVec.ofInt 16 (roundDiv t.1 100) }
  if k.state = .invalid then { f with q := 0, v := 0, re := 0, k := 0, corr := 0 } else flowOf s p paths k t.1 f

/-- A pipe's new record put in place, with what its changes log and count (R298, R300). -/
def takePipe (p : Idx3) (f : FePipe) (s : State) : State :=
  let old := s.fe.pipes.get p
  let f := if f.cutoff = old.cutoff then f else f.countChange s.now
  logImplausible p old.implausible f.implausible (logPipe p old.state f.state (setPipe p f s))

/-- One pipe's step 9 (R280 to R288, R294 to R298). -/
def flowPipe (p : Idx3) (s : State) : State :=
  if (s.pipePaths p).isEmpty then s
  else takePipe p ((pipeRecord p s).check (s.soundDev (s.pipePaths p) (s.tFlow p))) s

/-- A path has left its state outside step 9: the pipes that it serves follow (R294). -/
def followPath (p : Idx3) (s : State) : State :=
  Idx3.all.foldl (fun t q => if (t.pipePaths q).contains p then takePipe q (pipeRecord q t) t else t) s

/-- Step 9 of a cycle: every path, then every pipe. -/
def flowStep (s : State) : State :=
  let s := flowPath .three (flowPath .two (flowPath .one s))
  flowPipe .three (flowPipe .two (flowPipe .one s))

/-! ## At a start -/

/-- The records of the paths and pipes in use at a start: paths INVALID, cutoff set unless cutoff_um_s is 0 (R287, R290). -/
def startFlow (s : State) : State :=
  { s with fe :=
      { paths := s.fe.paths.imap (fun p _ => { FePath.reset with state := if s.pathUsed p then .invalid else .notUsed }),
        pipes := s.fe.pipes.imap (fun p f =>
          { FePipe.reset with state := if (s.pipePaths p).isEmpty then .notUsed else .invalid,
                              cutoff := (s.conf.pipes.get p).cutoffUmS != 0,
                              hourAt := f.hourAt, hourCount := f.hourCount, hourClosed := f.hourClosed }) } }

/-! ## Commands -/

/-- A pair is in flight, so that a change waits for its end (R22, R253). -/
def State.inPair (s : State) : Bool := s.seq.phase == .launched || s.seq.phase == .second || s.seq.phase == .repeating

/-- HOLD_EXPIRY: the hold of a HELD path runs out at a pair that is not VALID (R292): the cycle of the path's last pair began at least
hold_time_s after that of its last VALID pair, and the pair was not discarded for a conversion check (R293). Inside a pair nothing
changes. -/
def execHoldExpiry (p : Idx3) (s : State) : Host.Outcome State Fault Refusal :=
  .next (let f := s.fe.paths.get p
    if !s.inPair && f.state = .held && f.expired s.conf.holdS f.pairBegin && f.pair != .conversion && f.pair != .valid then
      followPath p (losePath p .invalid s)
    else s)

end Sys2Proof.Machine
end

