-- ==== Sys2Proof/Machine/Agate.lean ====
section
/-!
DEFINITION. The pulsation analyser (chapter 10): the sample series, the estimator, the correction, the dither and the residual.
Angles are turns in units of 2^-96, sines and cosines in units of 2^-96, velocities nm/s in units of 2^-32 (log entry 17).
-/
namespace Sys2Proof.Machine

/-! ## Fixed-point sine and cosine -/

/-- The unit of angles, sines and cosines. -/
def trigUnit : Int := 2 ^ 96

/-- 2π in units of 2^-96. -/
def twoPi : Int := 497805226624462170461043889244

/-- Terms t, −t x²/(k(k+1)), … of a sine or cosine series. -/
def trigTerms (x2 : Int) : Nat → Int → Int → Int
  | 0, _, _ => 0
  | n + 1, k, t => t + trigTerms x2 n (k + 2) (-(t * x2 / trigUnit) / (k * (k + 1)))

/-- An angle in turns brought into −1/2 … 1/2. -/
def reduceTurn (u : Int) : Int :=
  let r := u % trigUnit
  if 2 * r < trigUnit then r else r - trigUnit

/-- cos 2πu. -/
def cosTurn (u : Int) : Int :=
  let x := reduceTurn u * twoPi / trigUnit
  trigTerms (x * x / trigUnit) 24 1 trigUnit

/-- sin 2πu. -/
def sinTurn (u : Int) : Int :=
  let x := reduceTurn u * twoPi / trigUnit
  trigTerms (x * x / trigUnit) 24 2 x

/-! ## The series (R302, R303) -/

/-- The unit of velocities. -/
def velUnit : Int := 2 ^ 32

/-- Present samples of a series. -/
def nPresent (xs : List (Option Int)) : Nat := (xs.filter Option.isSome).length

/-- The longest run of missing samples. -/
def maxGap (xs : List (Option Int)) : Nat :=
  (xs.foldl (fun (a : Nat × Nat) x => if x.isSome then (a.1, 0) else (max a.1 (a.2 + 1), a.2 + 1)) (0, 0)).1

/-- The reference path of a pipe: the most VALID pairs, the lowest number on equal counts (R302). -/
def refPathOf (ser : Three (List (Option Int))) (paths : List Idx3) : Option Idx3 :=
  paths.foldl (fun acc p =>
    match acc with
    | none => some p
    | some q =>
      let a := nPresent (ser.get p)
      let b := nPresent (ser.get q)
      if b < a || (a == b && p.num < q.num) then some p else some q) none

/-- Missing samples at the beginning, waiting for the first present one; then each run between its neighbours (R305). -/
def fillGo : Option Int → Nat → List (Option Int) → List Int
  | none, n, [] => List.replicate n 0
  | some l, n, [] => List.replicate n l
  | l, n, none :: xs => fillGo l (n + 1) xs
  | none, n, some x :: xs => List.replicate n (x * velUnit) ++ (x * velUnit) :: fillGo (some (x * velUnit)) 0 xs
  | some l, n, some x :: xs =>
    (List.range n).map (fun (i : Nat) => l + roundDivI ((x * velUnit - l) * (i + 1)) (n + 1)) ++
      (x * velUnit) :: fillGo (some (x * velUnit)) 0 xs

/-- The series with every missing sample filled. -/
def fillSeries (xs : List (Option Int)) : List Int := fillGo none 0 xs

/-! ## The estimator (R305) -/

/-- The mean of a series. -/
def meanOf (xs : List Int) : Int := roundDivI (sumI xs) (max 1 xs.length)

/-- The Hann window at sample k. -/
def hann (k : Nat) : Int := (trigUnit - cosTurn (k * trigUnit / 256)) / 2

/-- The series less its mean, windowed. -/
def windowed (xs : List Int) (m : Int) : List Int :=
  (List.zip (List.range xs.length) xs).map (fun x => (x.2 - m) * hann x.1 / trigUnit)

/-- The discrete-time Fourier transform of a windowed series at a frequency in turns per sample: real and imaginary parts. -/
def dtft (ws : List Int) (phi : Int) : Int × Int :=
  (List.zip (List.range ws.length) ws).foldl (fun a x =>
    let u := phi * x.1
    (a.1 + x.2 * cosTurn u / trigUnit, a.2 - x.2 * sinTurn u / trigUnit)) (0, 0)

/-- The magnitude of a complex number. -/
def magOf (z : Int × Int) : Nat := rootOf (z.1 * z.1 + z.2 * z.2).toNat

/-- |X[b]|. -/
def binMag (ws : List Int) (b : Nat) : Nat := magOf (dtft ws (b * trigUnit / 256))

/-- One number into an ascending list. -/
def insertN (x : Nat) : List Nat → List Nat
  | [] => [x]
  | y :: ys => if x ≤ y then x :: y :: ys else y :: insertN x ys

/-- The median of an even number of values: the mean of the two in the middle. -/
def medianOf (xs : List Nat) : Nat :=
  let s := xs.foldl (fun acc x => insertN x acc) []
  (s.getD (s.length / 2 - 1) 0 + s.getD (s.length / 2) 0) / 2

/-- The bin of the largest magnitude over b = 2 to 41, the lowest on equal magnitudes. -/
def peakBin (mags : List Nat) : Nat :=
  (List.range 40).foldl (fun b k => if mags.getD b 0 < mags.getD (k + 2) 0 then k + 2 else b) 2

/-- The fundamental in turns per sample: (b0 + delta) / 256 (R305). Three magnitudes of 0 give a free bin (log entry 9). -/
def fundamental (mags : List Nat) (free : Nat) : Int :=
  let b := peakBin mags
  let l : Int := mags.getD (b - 1) 0
  let c : Int := mags.getD b 0
  let r : Int := mags.getD (b + 1) 0
  let d := l + 2 * c + r
  if d = 0 then (b * trigUnit + Config.binOfZeroSpectrum free) / 256
  else (b * d + 2 * (r - l)) * trigUnit / (256 * d)

/-- f0_hz × 100, rounded. -/
def f0c100 (phi : Int) : Int := roundDivI (phi * 50000) trigUnit

/-- A harmonic of the model: its transform at h × f0. -/
def harmonics (ws : List Int) (phi : Int) (n : Nat) : List (Int × Int) :=
  (List.range n).map (fun (h : Nat) => dtft ws (phi * (h + 1)))

/-- The model at sample k: m + Σ a_h cos(2π h f0 t + p_h), from the transforms (R305). -/
def modelAt (m phi : Int) (hs : List (Int × Int)) (k : Nat) : Int :=
  (List.zip (List.range hs.length) hs).foldl (fun a x =>
    let u := phi * ((x.1 + 1) * k : Nat)
    a + (x.2.1 * cosTurn u - x.2.2 * sinTurn u) / (64 * trigUnit)) m

/-- The series with the model in place of every missing sample. -/
def refit (xs : List (Option Int)) (m phi : Int) (hs : List (Int × Int)) : List Int :=
  (List.zip (List.range xs.length) xs).map (fun x =>
    match x.2 with
    | some v => v * velUnit
    | none => modelAt m phi hs x.1)

/-! ## Correction and residual (R306, R309) -/

/-- span: samples in whole periods. -/
def spanOf (phi : Int) : Nat := (phi * 256 / trigUnit * trigUnit / phi).toNat

/-- A(f) for a frequency in turns per sample of 2 ms and a dither of ±D: in units of 2^-96. -/
def ditherFactor (phi : Int) (d : Nat) : Int :=
  let u := phi * 500 / 65536
  let den := (2 * (d : Int) + 1) * sinTurn u
  (sinTurn (u * (2 * d + 1)) * trigUnit / (if den = 0 then 1 else den)).natAbs

/-- The analysis of a pipe with enough samples: its record (R305, R306, R309). -/
def analyse (xs : List (Option Int)) (ref : Idx3) (d free : Nat) : AgPipe :=
  let base := { AgPipe.reset with refPath := BitVec.ofNat 2 ref.num, maxGap := BitVec.ofNat 8 (holdAt 255 (maxGap xs)),
                                  nPresent := BitVec.ofNat 16 (nPresent xs) }
  if nPresent xs < 192 || 8 < maxGap xs then { base with result := .few }
  else
    let f := fillSeries xs
    let m := meanOf f
    let ws := windowed f m
    let mags := (List.range 121).map (binMag ws)
    let noise := medianOf (mags.drop 3) / 64
    let phi := fundamental mags free
    let a1 := magOf (dtft ws phi) / 64
    if phi * 500 < 5 * trigUnit || 80 * trigUnit < phi * 500 || a1 < max (8 * noise) (2000000 * 2 ^ 32) then
      { base with result := .none }
    else
      let n := min 12 (240 * trigUnit / (phi * 500)).toNat
      let x := refit xs m phi (harmonics ws phi n)
      let m := meanOf x
      let hs := harmonics (windowed x m) phi n
      let amps := hs.map (fun z => magOf z / 64)
      let sp := spanOf phi
      let vt := x.take sp
      let vs := ((List.zip xs x).take sp).filterMap (fun y => if y.1.isSome then some y.2 else none)
      let nt : Int := max 1 vt.length
      let ns : Int := max 1 vs.length
      let st := sumI vt
      let ss := sumI vs
      let suppressed := decide ((ss.natAbs : Int) < 10000000 * velUnit * ns) || (ss.sign != st.sign)
      let raw := if suppressed then 0 else roundDivI ((st * ns - ss * nt) * 1000000) (ss * nt)
      let den := (st.natAbs : Int)
      let res := ((List.zip (List.range amps.length) amps).map (fun y =>
        (y.2 : Int) * ditherFactor (phi * (y.1 + 1)) d)).foldl (· + ·) 0
      let foldBack := if den = 0 then Config.aliasOfZeroMean free else (roundDivI (res * nt * 1000000) (den * trigUnit)).toNat
      { base with result := .found, suppressed := suppressed, clamped := decide (raw < -20000) || decide (20000 < raw),
                  f0c100 := BitVec.ofInt 16 (f0c100 phi), nHarm := BitVec.ofNat 8 n,
                  vTrueUm := BitVec.ofInt 32 (roundDivI st (nt * velUnit * 1000)),
                  vSelUm := BitVec.ofInt 32 (roundDivI ss (ns * velUnit * 1000)),
                  corr := clampI (-20000) 20000 raw, foldBack := BitVec.ofNat 16 (holdAt 65535 foldBack),
                  amps := (amps.map (fun (a : Nat) => BitVec.ofNat 16 (holdAt 65535 (roundDiv (a : Int) (2 ^ 32 * 100000)).toNat)) ++
                           List.replicate 12 0).take 12 }

/-! ## The dither (R307, R308) -/

/-- One Galois step: x^16 + x^14 + x^13 + x^11 + 1. -/
def galois (x : BitVec 16) : BitVec 16 := if x.getLsbD 0 then (x >>> 1) ^^^ 0xB400 else x >>> 1

/-- Sixteen steps. -/
def galois16 (x : BitVec 16) : BitVec 16 := (List.range 16).foldl (fun y _ => galois y) x

/-- The dither is on: the result in use has a pipe FOUND (R307). -/
def Ag.dithers (a : Ag) : Bool := a.inUse && a.pipes.toList.any (fun p => p.result == .found)

/-- D for a cycle period. -/
def ditherMax (period : Nat) : Nat := period / 8

/-- d_n of a register value. -/
def ditherOf (x : BitVec 16) (period : Nat) : Int :=
  let d := ditherMax period
  (x.toNat * (2 * d + 1) / 65536 : Nat) - (d : Int)

/-- The sweep seed (R308). -/
def seedOf (uid : BitVec 64) (sweepCount : BitVec 16) : BitVec 16 :=
  let x := uid.setWidth 16 ^^^ sweepCount
  if x = 0 then 0xACE1 else x

/-! ## The result (R303, R304, R310 to R312) -/

/-- The register steps before a normal cycle while the dither is on (R308). -/
def stepDither (s : State) : State :=
  if s.ag.dithers then { s with ag := { s.ag with lfsr := galois16 s.ag.lfsr } } else s

/-- Code of Table 10.1. -/
def SweepResult.code : SweepResult → Nat
  | .notUsed => 0
  | .none => 1
  | .found => 2
  | .few => 3

/-- The record of one pipe after a sweep. -/
def agatePipe (s : State) (pipe : Idx3) : AgPipe :=
  match refPathOf s.ag.series (s.pipePaths pipe) with
  | none => AgPipe.reset
  | some p => analyse (s.ag.series.get p) p (ditherMax s.conf.cyclePeriod) (s.free + pipe.num)

/-- The argument words of event 0x0701: the results, and one word per pipe in use. -/
def agateWords (s : State) (r : Three AgPipe) : List (BitVec 32) :=
  let code := fun p => (r.get p).result.code
  BitVec.ofNat 32 (s.seq.sweeps.toNat * 65536 + code .one * 4096 + code .two * 256 + code .three * 16) ::
    (Idx3.all.filter (fun p => !(s.pipePaths p).isEmpty)).map (fun p =>
      BitVec.ofNat 32 ((r.get p).f0c100.toNat * 65536) ||| (BitVec.ofInt 16 (r.get p).corr).setWidth 32)

/-- The event of a sweep that reached its 256th snapshot (R312). -/
def logSweep (r : Three AgPipe) (s : State) : State := raise 0x0701 (agateWords s r) s

/-- The event of a sweep that reached its 256th snapshot and has no result, because AG was reset (R312, Table 10.3): every pipe with the
default of its record (DESIGN CHOICE, log entry 70). -/
def logNoResult (s : State) : State := logSweep (.const AgPipe.reset) s

/-- The event and flag of a clamped or suppressed correction (R312). -/
def logCorrection (p : Idx3) (r : AgPipe) (s : State) : State :=
  if r.clamped then raiseFlag flagPlausibility 0x0702 (arg (p.num * 256 + 1)) s
  else if r.suppressed then raiseFlag flagPlausibility 0x0702 (arg (p.num * 256)) s
  else s

/-- The sweep's result: a valid one replaces the result in use, and its dither and corrections hold from the first normal cycle after
the sweep (R304, R308, R310 to R312). -/
def finishAnalysis (s : State) : State :=
  let r : Three AgPipe := ⟨agatePipe s .one, agatePipe s .two, agatePipe s .three⟩
  let valid := r.toList.any (fun p => p.result == .none || p.result == .found)
  let seed := seedOf s.fuse.uid s.seq.sweeps
  let a := { s.ag with analysing := false, lastInvalid := !valid, abandoned := false, series := .const [] }
  let a := if valid then { a with inUse := true, resultSweep := s.seq.sweeps, resultS := s.seq.lastSweepS, lfsr := seed,
                                  seed := seed, pipes := r } else a
  let s := logSweep r { s with ag := a, free := s.free + 4 }
  logCorrection .three r.p3 (logCorrection .two r.p2 (logCorrection .one r.p1 s))

end Sys2Proof.Machine
end

