-- ==== Sys2Proof/Machine/Temp.lean ====
section
/-!
DEFINITION. The temperature conversion (chapter 11): the conversion set on a lent slot, the results and states of the sensors.
-/
namespace Sys2Proof.Machine

/-! ## The set (R319 to R321) -/

/-- The sensors in use, ascending. -/
def State.sensorsUsed (s : State) : List (Fin 4) := [0, 1, 2, 3].filter (fun n => s.sensorUsed n.val)

/-- The order of a set's discharges (R319); `none` is TSREF. -/
def setOrder (ks : List (Fin 4)) : List (Option (Fin 4)) :=
  let up := none :: ks.map some
  let dn := ks.reverse.map some ++ [none]
  up ++ dn ++ up ++ dn

/-- The length that SEQ takes a set for, in 0.1 ns (R321): four discharges of t_ref_prev last tRefSum ticks, of which 78.6432 make
0.1 ns; without a completed set t_ref_prev is 140 µs. -/
def State.setLen10 (s : State) : Nat :=
  let k := s.sensorsUsed.length
  let t := if s.temp.tRefSum = 0 then (4 + 10 * k) * 1400000 else ceilDiv ((4 + 10 * k) * s.temp.tRefSum * 10000) 3145728
  100000 + 4 * (k + 1) * 1600000 + t

/-- d_n of the next normal cycle (R241, R308). -/
def State.nextDither (s : State) : Int :=
  if s.ag.dithers then ditherOf (galois16 s.ag.lfsr) s.conf.cyclePeriod else 0

/-- LF periods to the next dithered tick. -/
def State.toTick (s : State) : Int :=
  (s.seq.nominal - s.bkd.timer).toInt + s.conf.cyclePeriod + s.nextDither

/-- A length in 0.1 ns ends at least 1 ms before the next dithered tick (R259, R320). -/
def State.fits (s : State) (len10 : Nat) : Bool := decide (((len10 + 10000000 : Nat) : Int) * 32768 ≤ s.toTick * 10000000000)

/-- The slot that the TIU lends: the highest-numbered good slot of the device (R210). DESIGN CHOICE (log entry 71): where a direct test
holds that slot, the next lower good one that nothing holds. -/
def Tiu.lendable (t : Tiu) : Option (Fin 24) :=
  ((List.finRange 24).reverse.filter (fun k => t.good k.val && (t.slot k.val).use == .free)).head?

/-- A loan begins. -/
def Tiu.lend (t : Tiu) (k : Fin 24) : Tiu := { t.setSlot k.val { t.slot k.val with state := 3 } with loan := some k }

/-- A loan ends; a slot retired meanwhile stays retired. -/
def Tiu.endLoan (t : Tiu) : Tiu :=
  match t.loan with
  | some k =>
    let x := t.slot k.val
    { t.setSlot k.val { x with state := if x.state = 3 then 0 else x.state } with loan := none }
  | none => t

/-- A set begins on the lent slot (R319, R320); without a slot none does. -/
def startSet (ofSweep : Bool) (s : State) : State :=
  match s.tiu.lendable with
  | none => s
  | some k =>
    { s with tiu := s.tiu.lend k,
             temp := { s.temp with restarted := false,
                                   set := some { left := setOrder s.sensorsUsed, refTimes := [], times := [], restarted := false,
                                                 ofSweep := ofSweep } } }

/-- A set ends without result and stays due (R323). -/
def abandonSet (s : State) : State :=
  match s.temp.set with
  | none => s
  | some _ =>
    { s with tiu := s.tiu.endLoan,
             temp := { s.temp with set := none, lastNoResult := true, setFails := s.temp.setFails + 1 },
             seq := { s.seq with tempDue := true } }

/-! ## From times to temperature (R318, R324) -/

/-- r_sw_mohm at a die temperature in 0.01 °C: 250 × (1 + 0.0035 (t − 25)), rounded. -/
def rSwitch (die100 : Int) : Int := roundDiv (250 * (1000000 + 35 * (die100 - 2500))) 1000000

/-- ts_c10000 of a resistance in mΩ, r0 in mΩ: the quadratic of EN 60751 to 12 further decimal places (R324). -/
def toC10000 (r r0 : Int) : Int :=
  let d := ((39083 * 39083 * 1000000 * r0 + 231000000000000 * (r0 - r)) * 10 ^ 24 / r0).toNat
  roundDiv ((39083000 * 10 ^ 12 - (rootOf d : Int)) * 10000) (11550 * 10 ^ 12)

/-- Four times that differ by more than 1/1024 of their mean. -/
def spreadBad (xs : List Nat) : Bool := decide (sumN xs < (xs.foldl max 0 - xs.foldl min (xs.headD 0)) * 4096)

/-- t_ref of a set as the sum of its four discharges less four delays, in ticks; none without all four. -/
def refSum (xs : List Nat) : Option Int := if xs.length = 4 then some ((sumN xs : Int) - 4 * 9437) else none

/-- REFERENCE of Table 11.3: a missing stop, t_ref outside 80 to 140 µs, or the spread check. -/
def refBad (xs : List Nat) : Bool :=
  match refSum xs with
  | none => true
  | some t => decide (t < 4 * 62914560) || decide (4 * 110100480 < t) || spreadBad xs

/-- A sensor's result with its temperature and resistance (R324, Table 11.3). -/
def sensorResult (s : State) (n : Fin 4) (ref : List Nat) (times : List (Option Nat)) : SensorResult × Int × Int :=
  if refBad ref then (.reference, 0, 0)
  else if times.any Option.isNone || times.isEmpty then (.opened, 0, 0)
  else
    let xs := times.filterMap id
    let t := (sumN xs : Int) - 4 * 9437
    let ratio := roundDivI (t * 1000000000) ((refSum ref).getD 1)
    let rsw := rSwitch s.hmc.die100
    let r := roundDiv (ratio * (s.conf.refMohm + rsw)) 1000000000 - rsw - (s.conf.leads.getD n.val 0 : Nat)
    let c := toC10000 r (if s.conf.pt500 then 500000 else 1000000)
    if ratio < 600000000 || r < 0 then (.short, 0, 0)
    else if spreadBad xs then (.spread, 0, 0)
    else if c < -200000 || 2000000 < c then (.range, 0, 0)
    else (.ok, c, r)

/-! ## Sensor states (Table 11.4) -/

/-- Code of Table 11.3. -/
def SensorResult.code : SensorResult → Nat
  | .ok => 0
  | .opened => 1
  | .short => 2
  | .range => 3
  | .spread => 4
  | .reference => 5
  | .mismatch => 6

/-- Code of Table 11.4. -/
def SensorState.code : SensorState → Nat
  | .notUsed => 0
  | .none => 1
  | .ok => 2
  | .suspect => 3
  | .fault => 4

/-- The state after a result. -/
def nextSensorState (r : SensorResult) (okOnce : Bool) : SensorState → SensorState
  | .notUsed => .notUsed
  | .none => if r = .ok then .ok else .fault
  | .ok => if r = .ok then .ok else if r = .mismatch then .fault else .suspect
  | .suspect => if r = .ok then .ok else .fault
  | .fault => if r = .ok && okOnce then .ok else .fault

/-- A sensor after one result (Table 11.4, Table 11.5). -/
def Sensor.take (x : Sensor) (r : SensorResult) (t res : Int) : Sensor :=
  let st := nextSensorState r x.okOnce x.state
  if r = .ok then
    { x with t := BitVec.ofInt 32 t, rMohm := BitVec.ofInt 32 res, last := r, state := st, okOnce := x.state == .fault && st == .fault,
             good := true }
  else
    { x with t := if r = .mismatch then 0 else x.t, last := r, state := st, okOnce := false, faults := x.faults + 1 }

/-- One sensor's result taken, with the event of a changed state and the flag on entering FAULT (R334, Table 16.11). -/
def takeResult (n : Fin 4) (r : SensorResult) (t res : Int) (s : State) : State :=
  let x := s.sensor n.val
  let y := x.take r t res
  let s := { s with temp := { s.temp with sensors := s.temp.sensors.set n.val y } }
  let s := if y.state = x.state then s
           else raise 0x0305 (arg ((n.val + 1) * 256 + r.code * 16 + y.state.code)) s
  when (y.state == .fault && x.state != .fault) (occur flagSensor) s

/-- The times of one sensor in a set. -/
def TempSet.timesOf (q : TempSet) (n : Fin 4) : List (Option Nat) := (q.times.filter (fun x => x.1 == n)).map Prod.snd

/-- A set completes: each sensor's result, the count, the age and t_ref (R324, Table 11.5). Without four TSREF times the earlier t_ref and
t_ref_prev stay (log entry 72). -/
def completeSet (q : TempSet) (s : State) : State :=
  let s := s.sensorsUsed.foldl (fun t n =>
    let r := sensorResult s n q.refTimes (q.timesOf n)
    takeResult n r.1 r.2.1 r.2.2 t) s
  let tr := match refSum q.refTimes with
    | some t => BitVec.ofInt 24 (roundDiv (t * 10000000) (4 * 786432000))
    | none => s.temp.tRef10
  { s with tiu := s.tiu.endLoan,
           temp := { s.temp with set := none, sets := s.temp.sets + 1, age := some 0, tRef10 := tr,
                                 tRefSum := if q.refTimes.length = 4 then sumN q.refTimes else s.temp.tRefSum,
                                 lastReference := refBad q.refTimes, lastNoResult := false },
           seq := { s.seq with tempDue := false } }

/-- 200 µs in ticks: the limit of a TSREF discharge (Table 11.3, R327). -/
def refLimit : Nat := 157286400

/-- The limit of the discharge under way in ticks: 200 µs for TSREF, 2.5 times the set's first TSREF discharge for a sensor (R327). -/
def TempSet.limit (q : TempSet) (x : Option (Fin 4)) : Nat :=
  match x with
  | none => refLimit
  | some _ => 5 * q.refTimes.headD 0 / 2

/-- The set goes on with its next discharge, or completes after its last. -/
def nextDischarge (q : TempSet) (s : State) : State :=
  match q.left with
  | [] => completeSet q s
  | _ :: _ => { s with temp := { s.temp with set := some q } }

/-- The discharge under way ends with its time, or without one at its limit; a set whose first TSREF discharge gives no stop ends at
once (R327). -/
def endDischarge (q : TempSet) (x : Option (Fin 4)) (left : List (Option (Fin 4))) (t : Option Nat) (s : State) : State :=
  match x, t with
  | none, some t => nextDischarge { q with left := left, refTimes := q.refTimes ++ [t] } s
  | none, none => if q.refTimes.isEmpty && q.times.isEmpty then completeSet q s else nextDischarge { q with left := left } s
  | some n, t => nextDischarge { q with left := left, times := q.times ++ [(n, t)] } s

/-- A discharge conversion failed a check: the slot is retired, and the set restarts once on the next slot when it fits (R320). -/
def restartSet (q : TempSet) (s : State) : State :=
  let s := { s with tiu := { s.tiu with loan := none } }
  match s.tiu.lendable with
  | some k =>
    if !q.restarted && s.fits s.setLen10 then
      raise 0x0307 (arg k.val)
        { s with tiu := s.tiu.lend k,
                 temp := { s.temp with restarted := true,
                                       set := some { q with left := setOrder s.sensorsUsed, refTimes := [], times := [], restarted := true } } }
    else abandonSet s
  | none => abandonSet s

/-! ## Due (R322, R328) -/

/-- TSREF at S03 differs from the image by more than 5 % (Table 11.3). -/
def State.tsrefMismatch (s : State) : Bool :=
  let d : Int := (1000 * s.straps.tsrefOhm : Nat) - (s.conf.refMohm : Int)
  decide (5 * s.conf.refMohm < 100 * d.natAbs)

/-- MISMATCH taken once by every sensor in use, logged with the TSREF reading held at 65 535 (Table 17.6), with the FAULT_N latch (R328, R520). -/
def takeMismatch (s : State) : State :=
  let s := s.sensorsUsed.foldl (fun t n => takeResult n .mismatch 0 0 t) { s with temp := { s.temp with mismatch := true } }
  setFault (raise 0x0306 (arg (holdAt 65535 s.straps.tsrefOhm)) s)

/-- A set becomes due (R322); with a MISMATCH none ever does (R328). -/
def setDue (s : State) : State :=
  if s.temp.mismatch then s
  else if s.tsrefMismatch then takeMismatch s
  else { s with seq := { s.seq with tempDue := true } }

/-- The sensors in use at a start are NONE (Table 11.4). -/
def startSensors (s : State) : State :=
  { s with temp := { Temp.reset with sensors := (List.range 4).map (fun n =>
      { Sensor.reset with state := if s.sensorUsed n then .none else .notUsed }) } }

/-! ## Commands -/

/-- TEMPERATURE_SET_DUE. -/
def execTemperatureSetDue (s : State) : Host.Outcome State Fault Refusal :=
  .next (if s.cycling then setDue s else s)

/-- DISCHARGE_STOP: the comparator ends a discharge and the lent slot converts the time (R316, R317, R320); a time beyond the discharge's
limit is no stop within it (R327). -/
def execDischargeStop (startCoarse : BitVec 24) (code : BitVec 16) (coarseEnd : BitVec 24) (chargeOk : Bool) (s : State) :
    Host.Outcome State Fault Refusal :=
  .next (match s.temp.set, s.tiu.loan with
    | some q, some k =>
      match q.left with
      | [] => s
      | x :: left =>
        let r := (s.tiu.slot k.val).cal.read code.toNat s.free
        let s := s.spend
        match checkCause r 0 none chargeOk with
        | some c => restartSet q (failConversion k.val c s)
        | none =>
          let t := relTicks (stampOf coarseEnd.toNat r.x) startCoarse.toNat
          endDischarge q x left (if t ≤ q.limit x then some t else none) s
    | _, _ => s)

/-- DISCHARGE_TIME_LIMIT: a sensor's discharge goes on without a time; the set ends at once when the first TSREF discharge gives no
stop (R327). -/
def execDischargeTimeLimit (s : State) : Host.Outcome State Fault Refusal :=
  .next (match s.temp.set with
    | some q =>
      match q.left with
      | [] => s
      | x :: left => endDischarge q x left none s
    | none => s)

/-- LOAN_CUTOFF: a loan that still runs 2 µs before a launch edge ends without result (R210, R323). -/
def execLoanCutoff (s : State) : Host.Outcome State Fault Refusal := .next (abandonSet s)

end Sys2Proof.Machine
end

