-- ==== Sys2Proof/Machine/Ee.lean ====
section
/-!
DEFINITION. The energy engine (chapter 12): integration, registers and error time, pulses, the settling of the registers at S11, and
the save and hour commands that concern it.
-/
namespace Sys2Proof.Machine

/-! ## Loops -/

/-- A loop exists: A always, B when the image carries its section (R336). -/
def State.loopExists (s : State) : LoopId → Bool
  | .a => true
  | .b => s.conf.loopB.isSome

/-- A loop's registers. -/
def Ee.loop (e : Ee) : LoopId → EeLoop
  | .a => e.loopA
  | .b => e.loopB

/-- A loop's registers replaced. -/
def Ee.setLoop (e : Ee) : LoopId → EeLoop → Ee
  | .a, x => { e with loopA := x }
  | .b, x => { e with loopB := x }

/-! ## Integration (R337 to R346) -/

/-- The interval of a cycle: the integrated part and the gap, in LF periods; none for the first cycle after a start (R337, R338). -/
def interval (prev : Option (BitVec 32)) (begin : BitVec 32) (hold : Nat) : Nat × Nat :=
  match prev with
  | none => (0, 0)
  | some b =>
    let span := (begin - b).toNat
    let n := min span (hold * 32768)
    (n, span - n)

/-- Error time: whole seconds move from the residue to the counter (R346). -/
def errTime (s : BitVec 32) (res add : Nat) : BitVec 32 × Nat :=
  let r := res + add
  (s + BitVec.ofNat 32 (r / 32768), r % 32768)

/-- One pipe, one cycle (R339, R346). -/
def EePipe.integrate (p : EePipe) (invalid : Bool) (q : Int) (n gap : Nat) : EePipe :=
  let e := errTime p.errS p.errRes (gap + if invalid then n else 0)
  let p := { p with errS := e.1, errRes := e.2 }
  if invalid then p
  else
    let dv := q * n
    if 0 ≤ dv then
      let r := p.fwdRes + dv.toNat
      { p with fwd := p.fwd + BitVec.ofNat 64 (r / 32768000), fwdRes := r % 32768000 }
    else
      let r := p.revRes + (-dv).toNat
      { p with rev := p.rev + BitVec.ofNat 48 (r / 32768000), revRes := r % 32768000 }

/-- The divisor of heat and cold: 3.6 J/mWh × 32 768 LF/s × 10^6 × 10^12 × 10^3 (R340). -/
def energyDiv : Nat := 117964800000000000000000000

/-- The divisor of mass (R340). -/
def massDiv : Nat := 32768000000000000000

/-- Energy or mass moved from a residue into its register. -/
def carry64 (reg : BitVec 64) (res add div : Nat) : BitVec 64 × Nat :=
  let r := res + add
  (reg + BitVec.ofNat 64 (r / div), r % div)

/-- What a loop integrates in a cycle: mass only, heat, or cold. -/
inductive Kind where
  | massOnly | heat | cold
deriving DecidableEq, Repr

/-- The last three rows of Table 12.1, for forward flow. -/
def kindOf (c : LoopConf) (dh tSup : Int) : Kind :=
  if 0 < dh && (c.mode == 0 || c.mode == 2) then .heat
  else if dh < 0 && (c.mode == 1 || c.mode == 2) && decide (tSup < 100 * c.coldMax100) then .cold
  else .massOnly

/-- Forward flow of a loop (R340, Table 12.1). -/
def EeLoop.forward (l : EeLoop) (c : LoopConf) (rho dh tSup dv q : Int) : EeLoop :=
  let m := carry64 l.mass l.massRes (rho * dv).toNat massDiv
  let l := { l with mass := m.1, massRes := m.2, power := 0, reverse := false, state := 3 }
  let w := BitVec.ofInt 32 (roundDiv (rho * q * dh) (10 ^ 21))
  match kindOf c dh tSup with
  | .heat =>
    let h := carry64 l.heat l.heatRes (rho * dv * dh).toNat energyDiv
    { l with heat := h.1, heatRes := h.2, power := w, state := 1 }
  | .cold =>
    let h := carry64 l.cold l.coldRes (-(rho * dv * dh)).toNat energyDiv
    { l with cold := h.1, coldRes := h.2, power := w, state := 2 }
  | .massOnly => l

/-- One loop, one cycle: the rows of Table 12.1 from the top. -/
def EeLoop.integrate (l : EeLoop) (c : LoopConf) (error : Bool) (rho dh tSup q : Int) (n gap : Nat) : EeLoop :=
  let e := errTime l.errS l.errRes (gap + if error then n else 0)
  let l := { l with errS := e.1, errRes := e.2 }
  let dv := q * n
  if error then { l with state := 4, power := 0, reverse := false }
  else if dv < 0 then { l with state := 3, power := 0, reverse := true }
  else if dv = 0 then { l with state := 3, power := 0, reverse := false }
  else l.forward c rho dh tSup dv q

/-- A pipe that CFG_B provides is INVALID, or does not exist. -/
def State.pipeOut (s : State) (p : Idx3) : Bool := (s.pipePaths p).isEmpty || (s.fe.pipes.get p).state == .invalid

/-- A loop's medium is out of range in this cycle: a temperature that FE or EE uses for it lies outside (R344). -/
def State.loopOutOfRange (s : State) (l : LoopId) (forward : Bool) : Bool :=
  let out := fun t => s.conf.outOfRange t
  let sens := s.sensorsOf l
  (Idx3.all.any (fun p => !s.pipeOut p && s.pipeLoop p == l && out (s.tFlow p).1)) ||
  (forward && (out (s.sensor sens.1).t.toInt || out (s.sensor sens.2).t.toInt))

/-- One loop of the cycle, with the first cycle of an episode out of range logged (R344). -/
def integrateLoop (l : LoopId) (n gap : Nat) (s : State) : State :=
  if !s.loopExists l then s
  else
    let c := s.loopConf l
    let sens := s.sensorsOf l
    let sup := s.sensor sens.1
    let ret := s.sensor sens.2
    let q := (s.fe.pipes.get c.pipe).q
    let err := s.pipeOut c.pipe || sup.out || ret.out
    let ts := sup.t.toInt
    let x := s.ee.loop l
    let oor := s.loopOutOfRange l (!err && decide (0 < q * n))
    let y := x.integrate c err (s.conf.rho (s.sensor (s.flowSensor l)).t.toInt)
      (s.conf.enthalpy ts - s.conf.enthalpy ret.t.toInt) ts q n gap
    let s := { s with ee := s.ee.setLoop l { y with outOfRange := oor } }
    when (oor && !x.outOfRange)
      (raiseFlag flagPlausibility 0x0603 (arg ((match l with | .a => 0 | .b => 256) + s.conf.medium))) s

/-- One pipe of the cycle. -/
def integratePipe (p : Idx3) (n gap : Nat) (s : State) : State :=
  if (s.pipePaths p).isEmpty then s
  else
    let f := s.fe.pipes.get p
    { s with ee := { s.ee with pipes := s.ee.pipes.set p ((s.ee.pipes.get p).integrate (f.state == .invalid) f.q n gap) } }

/-! ## Pulses (R73, R87, R357 to R359) -/

/-- The energy weight in mWh and the volume weight in µL; 0 keeps the pad low (Table 3.7, Table 4.18). -/
def State.weights (s : State) : Nat × Nat :=
  match s.code 3 with
  | some 0 => (1000, 1000000)
  | some 1 => (10000, 10000000)
  | some 2 => (100000, 100000000)
  | some 3 => (1000000, 1000000000)
  | some 4 => (10000000, 10000000000)
  | some 5 => (100, 100000)
  | some 6 => (s.conf.energyMwh, s.conf.volumeMl * 1000)
  | _ => (0, 0)

/-- The register that a pad pulses with its weight (Table 3.1); `false` is PULSE_A. A quantity that does not exist has weight 0
(R74). -/
def State.pulsed (s : State) (padB : Bool) : BitVec 64 × Nat :=
  if padB then
    (if s.straps.levels.p2 then (s.ee.loopB.heat, if s.loopExists .b then s.weights.1 else 0) else (s.ee.loopA.cold, s.weights.1))
  else (if s.straps.levels.p1 then (s.ee.pipes.p1.fwd, s.weights.2) else (s.ee.loopA.heat, s.weights.1))

/-- Pulses between two register values, the wrap modulo 2^64 (R357). -/
def pulsesOf (old new : BitVec 64) (w : Nat) : Nat :=
  if w = 0 then 0 else (old.toNat + (new - old).toNat) / w - old.toNat / w

/-- A pad. -/
def Ee.pad (e : Ee) (b : Bool) : PulsePad := if b then e.padB else e.padA

/-- A pad replaced. -/
def Ee.setPad (e : Ee) (b : Bool) (p : PulsePad) : Ee := if b then { e with padB := p } else { e with padA := p }

/-- Pulses become pending; the excess over 65 535 is dropped and counted, the first drop of an hour logged (R357, R359). -/
def addPulses (b : Bool) (n : Nat) (s : State) : State :=
  let p := s.ee.pad b
  let t := p.pending.toNat + n
  if t ≤ 65535 then { s with ee := s.ee.setPad b { p with pending := BitVec.ofNat 16 t } }
  else
    let opens := match p.hourAt with
      | some h => decide (3600 ≤ (s.now - h).toNat)
      | none => true
    let e := s.ee.setPad b { p with pending := 0xFFFF, hourAt := if opens then some s.now else p.hourAt }
    let lost := e.lost + BitVec.ofNat 16 (t - 65535)
    let s := occur flagPulse { s with ee := { e with lost := lost, pulseLost := true } }
    when opens (raise 0x0604 (arg (b.toNat * 65536 + lost.toNat))) s

/-- The 10 ms of a pulse end at least 1 ms before the next dithered tick (R358). -/
def State.pulseFits (s : State) : Bool := s.fits 100000000

/-- A pad starts its next pulse when one is pending and fits (R358); none starts while the device is to park (R398). -/
def startPulse (b : Bool) (s : State) : State :=
  let p := s.ee.pad b
  if p.phase = .idle && p.pending != 0 && s.pulseFits && s.cycling && s.power.parked.isNone then
    voteFor .ee 0 { s with ee := s.ee.setPad b { p with pending := p.pending - 1, phase := .high } }
  else s

/-- A pulse is high, or the low time of one ends before a pending one starts. -/
def PulsePad.busy (p : PulsePad) : Bool := p.phase == .high || (p.phase == .low && p.pending != 0)

/-- Step 10 of Table 8.2: the EE votes RUN; the vote stands until its last pulse has been high (R358). -/
def eeWorks (s : State) : State := voteFor .ee 0 s

/-- The EE withdraws its vote once the cycle is over and its last pulse has been high (R358, Table 8.2 step 13). -/
def eeVote (s : State) : State :=
  if s.ee.padA.busy || s.ee.padB.busy || s.seq.phase != .none then s else voteFor .ee 2 s

/-! ## One cycle (Table 8.2 step 10) -/

/-- The first valid cycle's check for a pulse quantity that does not exist (R74): only the heat of a missing loop B can be one. -/
def checkPulses (s : State) : State :=
  if s.start.pulseChecked then s
  else
    let s := { s with start := { s.start with pulseChecked := true } }
    when (s.straps.levels.p2 && !s.loopExists .b) (raise 0x0A07 (arg 1)) s

/-- Step 10: every pipe and loop integrates over the cycle's interval, and the pulses are counted. The device seconds of a cycle that
integrated are those of its read session, which its snapshot carries too (R352, R374). -/
def energyStep (s : State) : State :=
  let i := interval s.ee.begin s.seq.begin s.conf.holdS
  let first := s.ee.begin.isNone
  let s := checkPulses { s with ee := { s.ee with begin := some s.seq.begin, banksOk := true } }
  let a := s.pulsed false
  let b := s.pulsed true
  let s := integratePipe .three i.1 i.2 (integratePipe .two i.1 i.2 (integratePipe .one i.1 i.2 s))
  let s := integrateLoop .b i.1 i.2 (integrateLoop .a i.1 i.2 s)
  let s := addPulses true (pulsesOf b.1 (s.pulsed true).1 b.2) (addPulses false (pulsesOf a.1 (s.pulsed false).1 a.2) s)
  let s := eeWorks s
  if first then s else { s with ee := { s.ee with lastIntS := some s.frozen.deviceS } }

/-! ## Registers at S11 (R353 to R355) -/

/-- The body of a save record (Table 12.5) with the device seconds of its snapshot. -/
def saveBody (deviceS : BitVec 32) (e : Ee) : List Byte :=
  be 4 deviceS ++
  be 8 e.pipes.p1.fwd ++ be 8 e.pipes.p2.fwd ++ be 8 e.pipes.p3.fwd ++
  be 6 e.pipes.p1.rev ++ be 6 e.pipes.p2.rev ++ be 6 e.pipes.p3.rev ++
  be 8 e.loopA.heat ++ be 8 e.loopA.cold ++ be 8 e.loopB.heat ++ be 8 e.loopB.cold ++
  be 4 e.pipes.p1.errS ++ be 4 e.pipes.p2.errS ++ be 4 e.pipes.p3.errS ++
  be 4 e.loopA.errS ++ be 4 e.loopB.errS ++
  be 4 e.loopA.estHeat ++ be 4 e.loopA.estCold ++ be 4 e.loopB.estHeat ++ be 4 e.loopB.estCold

/-- A field of a save record as a bit vector. -/
def bitsAt (w : Nat) (r : List Byte) (off n : Nat) : BitVec w := BitVec.ofNat w (fieldN r off n)

/-- The registers that a save record holds, residues and mass 0. -/
def Ee.restoreFrom (e : Ee) (r : List Byte) : Ee :=
  let pipe := fun (k : Nat) => { EePipe.reset with fwd := bitsAt 64 r (0x0E + 8 * k) 8, rev := bitsAt 48 r (0x26 + 6 * k) 6,
                                                   errS := bitsAt 32 r (0x58 + 4 * k) 4 }
  let loop := fun (k : Nat) => { EeLoop.reset with heat := bitsAt 64 r (0x38 + 16 * k) 8, cold := bitsAt 64 r (0x40 + 16 * k) 8,
                                                   errS := bitsAt 32 r (0x64 + 4 * k) 4,
                                                   estHeat := bitsAt 32 r (0x6C + 8 * k) 4, estCold := bitsAt 32 r (0x70 + 8 * k) 4 }
  { e with pipes := ⟨pipe 0, pipe 1, pipe 2⟩, loopA := loop 0, loopB := loop 1, banksOk := true, restored := true,
           massRestart := true }

/-- The newest valid record before `r1` with a lower device_s (R355). -/
def recordBefore (rs : List ((Nat × Nat) × List Byte)) (r1 : List Byte) : Option (List Byte) :=
  (newestSave (rs.filter (fun x => decide (fieldN x.2 4 4 < fieldN r1 4 4) && decide (fieldN x.2 0x0A 4 < fieldN r1 0x0A 4)))).map
    Prod.snd

/-- The estimate of one register (R355). -/
def estimate (est : BitVec 32) (r1 r0 : List Byte) (off unsaved : Nat) : BitVec 32 :=
  let d := (fieldN r1 off 8 + 2 ^ 64 - fieldN r0 off 8) % 2 ^ 64
  est + BitVec.ofNat 32 (d * unsaved / ((fieldN r1 0x0A 4 - fieldN r0 0x0A 4) * 1000))

/-- The estimates of both loops added. -/
def Ee.estimate (e : Ee) (r1 r0 : List Byte) (unsaved : Nat) : Ee :=
  let f := fun (l : EeLoop) (k : Nat) =>
    { l with estHeat := Machine.estimate l.estHeat r1 r0 (0x38 + 16 * k) unsaved,
             estCold := Machine.estimate l.estCold r1 r0 (0x40 + 16 * k) unsaved }
  { e with loopA := f e.loopA 0, loopB := f e.loopB 1 }

/-- A restore logged with its unsaved seconds; an unsaved interval sets its flag (R353). -/
def logRestore (s : State) : State :=
  let s := raise 0x0601 (arg s.ee.unsavedS.toNat) s
  when s.ee.unsaved (occur flagSave) s

/-- Table 12.7: the registers at S11; none where no valid record is found (0x71). -/
def settleRegisters (s : State) : Option State :=
  if s.ee.banksOk then some s
  else
    let rs := s.mem.validSaves
    match newestSave rs with
    | some (_, r) =>
      let t := fieldN r 0x0A 4
      let e := s.ee.restoreFrom r
      let kind2 := fieldN r 9 1 == 2
      match s.bkd.aliveS with
      | some a =>
        if kind2 || a.toNat ≤ t then some (logRestore { s with ee := e })
        else
          let u := a.toNat - t
          let e := { e with unsaved := true, unsavedS := BitVec.ofNat 32 u }
          let e := match recordBefore rs r with
            | some r0 => e.estimate r r0 u
            | none => e
          some (logRestore { s with ee := e })
      | none =>
        if kind2 then some (logRestore { s with ee := e })
        else some (logRestore { s with ee := { e with unsaved := true, unsavedS := 0xFFFFFFFF } })
    | none =>
      if s.mem.saveBlank then
        some (logRestore { s with ee := { Ee.reset with banksOk := true, restored := true, massRestart := true } })
      else none

/-- A loop's published values of a cycle, cleared; its registers stay. -/
def EeLoop.fresh (l : EeLoop) : EeLoop := { l with power := 0, reverse := false, outOfRange := false, state := 0 }

/-- The EE across DEEP SLEEP or a reset of its block: the registers, residues, begin_prev, pulse pending counts and open hours stand in the Flint banks; the
published values, the flags and the lost count do not (R393, Table 17.4). -/
def Ee.retained (e : Ee) : Ee :=
  { Ee.reset with banksOk := e.banksOk, pipes := e.pipes, loopA := e.loopA.fresh, loopB := e.loopB.fresh, begin := e.begin,
                  padA := { e.padA with phase := .idle }, padB := { e.padB with phase := .idle } }

/-- The EE at a start: the first cycle integrates nothing (R338), no pulse is pending and none is lost (R357). The open hours stay
with the Flint banks. -/
def Ee.start (e : Ee) : Ee :=
  { e with loopA := e.loopA.fresh, loopB := e.loopB.fresh, begin := none, restored := false, unsaved := false, massRestart := false, pulseLost := false, lowSave := false,
           lost := 0, unsavedS := 0, padA := { PulsePad.reset with hourAt := e.padA.hourAt },
           padB := { PulsePad.reset with hourAt := e.padB.hourAt }, lastIntS := none }

/-- Whether the Flint banks still hold what they held, as their CRCs will say when they are checked (R131, R353). What they lost stays lost
whatever the check is followed by (R503, R540). -/
def keepBanks (held : Bool) (s : State) : State := if held then s else loseBanks s

/-! ## Commands -/

/-- SCHEDULED_SAVE_DUE: the management core makes it at its first wake after this moment (R348). -/
def execScheduledSaveDue (s : State) : Host.Outcome State Fault Refusal :=
  .next { s with save := { s.save with due := true } }

/-- BATTERY_LOW: one save of kind 1 in battery supply, until it is armed again (R351). -/
def execBatteryLow (s : State) : Host.Outcome State Fault Refusal :=
  .next (if s.cycling && !s.linkSupply && s.save.lowArmed then
    let s := raiseFlag flagPowerfail 0x0207 (arg 1)
      { s with save := { s.save with lowArmed := false }, ee := { s.ee with lowSave := true } }
    if s.mem.usable then requestMem (.save true 1 none) s else s
  else s)

/-- BATTERY_LOW_REARM: VBAT has been at or above 2.85 V for 1 s (R351). -/
def execBatteryLowRearm (s : State) : Host.Outcome State Fault Refusal :=
  .next (if !s.linkSupply then { s with save := { s.save with lowArmed := true } } else s)

/-- The count events of closed hours of a pipe (R300, R540). -/
def logHours (p : Idx3) (ns : List (BitVec 16)) (s : State) : State :=
  ns.foldl (fun t n => raise 0x0503 (arg (p.num * 2 ^ 24 + n.toNat)) t) s

/-- An open hour of 3600 device seconds is over (R540). -/
def hourOver (now : BitVec 32) : Option (BitVec 32) → Bool
  | some t => decide (3600 ≤ (now - t).toNat)
  | none => false

/-- An hour that is over closes, and its count waits for the management tick (R540). -/
def FePipe.closeHour (f : FePipe) (now : BitVec 32) : FePipe :=
  if hourOver now f.hourAt then { f with hourAt := none, hourCount := 0, hourClosed := f.hourClosed ++ [f.hourCount] } else f

/-- At a management tick a pipe's hour that is over closes, and the counts of its closed hours are logged (R300, R540). -/
def reportHours (s : State) (p : Idx3) : State :=
  let f := (s.fe.pipes.get p).closeHour s.now
  logHours p f.hourClosed (setPipe p { f with hourClosed := [] } s)

/-- HOUR_CLOSE: an hour of 3600 device seconds has closed; a pipe's count is logged at the next management tick, and a pad's hour writes no
event (R540). -/
def execHourClose (h : HourOf) (s : State) : Host.Outcome State Fault Refusal :=
  .next (match h with
    | .pipe p => setPipe p ((s.fe.pipes.get p).closeHour s.now) s
    | .pad b =>
      let p := s.ee.pad b
      match p.hourAt with
      | some t => if 3600 ≤ (s.now - t).toNat then { s with ee := s.ee.setPad b { p with hourAt := none } } else s
      | none => s)

end Sys2Proof.Machine
end

