-- ==== Sys2Proof/Machine/Ecdsa.lean ====
section
/-!
DEFINITION. ECDSA signature verification on curve P-256 (FIPS 186-5, Table 0.4), used for image signatures (R113).
-/
namespace Sys2Proof.Machine.Ecdsa

/-- The field prime of P-256. -/
def p : Nat := 0xffffffff00000001000000000000000000000000ffffffffffffffffffffffff
/-- The group order. -/
def n : Nat := 0xffffffff00000000ffffffffffffffffbce6faada7179e84f3b9cac2fc632551
/-- The curve coefficient b; a is −3. -/
def b : Nat := 0x5ac635d8aa3a93e7b3ebbd55769886bc651d06b0cc53b0f63bce3c3e27d2604b
/-- The base point. -/
def gx : Nat := 0x6b17d1f2e12c4247f8bce6e563a440f277037d812deb33a0f4a13945d898c296
/-- Its second coordinate. -/
def gy : Nat := 0x4fe342e2fe1a7f9b8ee7eb4a7c0f9e162bce33576b315ececbb6406837bf51f5

/-- Power modulo `m`, over the low `k` bits of the exponent, most significant first. -/
def powMod (m x e : Nat) : Nat → Nat
  | 0 => 1 % m
  | k + 1 =>
    let r := powMod m x (e / 2) k
    if e % 2 = 1 then r * r % m * x % m else r * r % m

/-- Inverse modulo a prime, by Fermat. -/
def inv (m x : Nat) : Nat := powMod m x (m - 2) 256

/-- Difference modulo `p`. -/
def sub (x y : Nat) : Nat := (x + (p - y % p)) % p

/-- A point of the curve; none is the point at infinity. -/
abbrev Point := Option (Nat × Nat)

/-- Sum of two points. -/
def add : Point → Point → Point
  | none, q => q
  | q, none => q
  | some (x1, y1), some (x2, y2) =>
    if x1 = x2 ∧ (y1 + y2) % p = 0 then none
    else
      let l := if x1 = x2 then sub (3 * x1 * x1) 3 * inv p (2 * y1) % p else sub y2 y1 * inv p (sub x2 x1) % p
      let x3 := sub (l * l) (x1 + x2)
      some (x3, sub (l * sub x1 x3) y1)

/-- Multiple of a point, over the low `k` bits of the scalar. -/
def mul (q : Point) (e : Nat) : Nat → Point
  | 0 => none
  | k + 1 =>
    let r := mul q (e / 2) k
    let d := add r r
    if e % 2 = 1 then add d q else d

/-- Whether a pair of coordinates is a point of the curve. -/
def onCurve (x y : Nat) : Bool := x < p && y < p && y * y % p == (x * x * x + sub b (3 * x)) % p

/-- Verification of a signature (r, s) by key (x, y) over a digest (R113). -/
def verify (x y r s digest : Nat) : Bool :=
  onCurve x y && decide (0 < r ∧ r < n ∧ 0 < s ∧ s < n) &&
    (let w := inv n s
     match add (mul (some (gx, gy)) (digest * w % n) 256) (mul (some (x, y)) (r * w % n) 256) with
     | none => false
     | some (rx, _) => rx % n == r)

end Sys2Proof.Machine.Ecdsa
end

