-- ==== Sys2Proof/Machine/Sha.lean ====
section
/-!
DEFINITION. SHA-256 (FIPS 180-4, Table 0.4), used for image digests and the owner key hash (R113, R114). The standard's constants are
formed as it defines them, from the fractional parts of roots of primes.
-/
namespace Sys2Proof.Machine.Sha

/-! ## Constants -/

/-- A number above 1 that no smaller one but 1 divides. -/
def isPrime (n : Nat) : Bool := decide (1 < n) && (List.range n).all (fun d => decide (d < 2) || n % d != 0)

/-- The 64 primes up to 311. -/
def primes : List Nat := (List.range 312).filter isPrime

/-- The largest number of `bits` bits above `r` whose power with exponent `e` is at most `x`, one bit at a time. -/
def rootFrom (e x : Nat) : Nat → Nat → Nat
  | r, 0 => r
  | r, bits + 1 => rootFrom e x (if (r + 2 ^ bits) ^ e ≤ x then r + 2 ^ bits else r) bits

/-- The first 32 bits of the fractional part of the root of `n` with exponent `e`. -/
def rootWord (e n : Nat) : BitVec 32 := BitVec.ofNat 32 (rootFrom e (n * 2 ^ (32 * e)) 0 37)

/-- One constant per round: from cube roots. -/
def roundWords : List (BitVec 32) := primes.map (rootWord 3)

/-- The chaining value before the first block: from square roots of the first eight primes. -/
def start : List (BitVec 32) := (primes.take 8).map (rootWord 2)

/-! ## Compression -/

/-- Two rotations and a third word added bit by bit. -/
def spin (m n : Nat) (z x : BitVec 32) : BitVec 32 := x.rotateRight m ^^^ x.rotateRight n ^^^ z

/-- The word that enters the window of 16 message words as its first leaves. -/
def nextWord (win : List (BitVec 32)) : BitVec 32 :=
  let old := win.getD 1 0
  let new := win.getD 14 0
  win.getD 0 0 + win.getD 9 0 + spin 7 18 (old >>> 3) old + spin 17 19 (new >>> 10) new

/-- The eight working words after a round that adds `v`. -/
def turn (v : BitVec 32) : List (BitVec 32) → List (BitVec 32)
  | [a, b, c, d, e, f, g, h] =>
    let x := v + h + spin 6 11 (e.rotateRight 25) e + (g ^^^ (e &&& (f ^^^ g)))
    let y := spin 2 13 (a.rotateRight 22) a + ((a &&& b) ||| (c &&& (a ||| b)))
    [x + y, a, b, c, d + x, e, f, g]
  | ws => ws

/-- The rounds of one block: each takes the first word of the window, which slides on. -/
def rounds : List (BitVec 32) → List (BitVec 32) → List (BitVec 32) → List (BitVec 32)
  | [], _, ws => ws
  | k :: ks, win, ws => rounds ks (win.drop 1 ++ [nextWord win]) (turn (k + win.getD 0 0) ws)

/-- A block of 64 bytes taken into the chaining value. -/
def absorb (hs : List (BitVec 32)) (blk : List Byte) : List (BitVec 32) :=
  let win := (List.range 16).map (fun j => BitVec.ofNat 32 (fieldN blk (4 * j) 4))
  List.zipWith (· + ·) hs (rounds roundWords win hs)

/-- The number of blocks of a message with its mark and its length. -/
def blockCount (n : Nat) : Nat := (n + 72) / 64

/-- The message filled up to whole blocks: a mark, zeros, and its length in bits. -/
def filled (bs : List Byte) : List Byte :=
  bs ++ 0x80 :: List.replicate (64 * blockCount bs.length - bs.length - 9) 0 ++ beN 8 (8 * bs.length)

end Sys2Proof.Machine.Sha

namespace Sys2Proof.Machine

/-- SHA-256 of a message as 32 bytes. -/
def sha256 (bs : List Byte) : List Byte :=
  let m := Sha.filled bs
  ((List.range (Sha.blockCount bs.length)).foldl (fun hs i => Sha.absorb hs (slice m (64 * i) 64)) Sha.start).flatMap (be 4)

end Sys2Proof.Machine
end

