-- ==== Sys2Proof/Machine/Image.lean ====
section
/-!
DEFINITION. Images: header, trailer, sections, the checks of Table 4.6 with R510's additions, and the parsed configuration
(Tables 4.8 to 4.19).
-/
namespace Sys2Proof.Machine

/-- A section: its id and its value. -/
structure Section where
  id : Nat
  value : List Byte
deriving DecidableEq, Repr, Inhabited

/-- The sections of a run of bytes under R111: each header, value and zero padding, up to the very end. -/
def sectionsOf : Nat → List Byte → Option (List Section)
  | _, [] => some []
  | 0, _ :: _ => none
  | fuel + 1, b =>
    if b.length < 4 then none
    else
      let n := fieldN b 2 2
      let whole := 4 + (n + 3) / 4 * 4
      if b.length < whole || !allEq 0 (slice b (4 + n) (whole - 4 - n)) then none
      else (sectionsOf fuel (b.drop whole)).map (fun r => ⟨fieldN b 0 2, slice b 4 n⟩ :: r)

/-- Strictly ascending numbers. -/
def ascending : List Int → Bool
  | [] => true
  | [_] => true
  | x :: y :: rest => decide (x < y) && ascending (y :: rest)

/-- A length of `k × n` with n from 2 to a bound. -/
def repeats (k bound len : Nat) : Bool := len % k == 0 && decide (2 ≤ len / k) && decide (len / k ≤ bound)

/-- The value lengths of Table 4.7; 0x8000 and higher are the meter maker's own (R112). -/
def lengthOk (x : Section) : Bool :=
  let n := x.value.length
  if 0x8000 ≤ x.id then true
  else if [0x0001, 0x0100, 0x0200, 0x0201, 0x0202, 0x0203, 0x0301, 0x0302, 0x0303, 0x0600].contains x.id then n == 16
  else if [0x0311, 0x0312, 0x0313].contains x.id then repeats 8 16 n
  else if x.id = 0x0400 then n == 4
  else if x.id = 0x0410 then repeats 20 32 n
  else if [0x0501, 0x0502, 0x0700].contains x.id then n == 8
  else if x.id = 0x0800 then n == 12
  else false

/-- `n`-byte points of a table. -/
def points (n : Nat) (b : List Byte) : List (List Byte) := (List.range (b.length / n)).map (fun k => slice b (k * n) n)

/-- Reserved bytes of a section are 0 (R112). -/
def reservedOk (x : Section) : Bool :=
  let v := x.value
  let z := fun off n => allEq 0 (slice v off n)
  if x.id = 0x0100 || x.id = 0x0200 then z 0x0C 4
  else if [0x0201, 0x0202, 0x0203].contains x.id then z 0x0E 2
  else if [0x0301, 0x0302, 0x0303].contains x.id then z 0x0D 3
  else if x.id = 0x0400 || x.id = 0x0600 then z 1 3
  else if x.id = 0x0410 then (points 20 v).all (fun p => allEq 0 (slice p 2 2))
  else if x.id = 0x0501 || x.id = 0x0502 then z 6 2
  else if x.id = 0x0800 then z 5 1
  else true

/-- The value of a section that is present. -/
def sectionOf (id : Nat) (xs : List Section) : Option (List Byte) := (xs.find? (fun x => x.id == id)).map Section.value

/-- Section numbers by path or pipe. -/
def pathId (p : Idx3) : Nat := 0x0200 + p.num
def pipeId (p : Idx3) : Nat := 0x0300 + p.num
def profileId (p : Idx3) : Nat := 0x0310 + p.num

/-- The sections that other sections require or forbid: profile tables and the custom medium table (Table 4.7). -/
def dependOk (xs : List Section) : Bool :=
  Idx3.all.all (fun p =>
    (sectionOf (profileId p) xs).isSome == (((sectionOf (pipeId p) xs).map (fun v => fieldN v 0x0C 1 == 1)).getD false)) &&
  (sectionOf 0x0410 xs).isSome == (((sectionOf 0x0400 xs).map (fun v => fieldN v 0 1 == 0xF0)).getD false)

/-- Number in a closed range. -/
def within (lo hi n : Nat) : Bool := decide (lo ≤ n) && decide (n ≤ hi)

/-- Integer in a closed range. -/
def withinI (lo hi n : Int) : Bool := decide (lo ≤ n) && decide (n ≤ hi)

/-- The field ranges that depend on no strap (check 10, Tables 4.8 to 4.19). The sum of a pipe's weights is taken over all three fields here,
and that positions which the pipe lacks hold 0 is check 11's (DEDUCED, log entry 102). -/
def fieldsOk (x : Section) : Bool :=
  let v := x.value
  let n := fieldN v
  let z := fieldI v
  if x.id = 0x0001 then (slice v 0 4).all bcdOk && (slice v 8 8).all (fun b => within 0x20 0x7E b.toNat)
  else if x.id = 0x0100 then
    (n 0 4 == 0 || within 2048 131072 (n 0 4)) && (n 4 2 == 0 || within 1 3600 (n 4 2)) &&
    (n 6 2 == 0 || within 60 3600 (n 6 2)) && (n 8 2 == 0 || n 8 2 == 0xFFFF || within 60 65534 (n 8 2)) &&
    within 0 60 (n 10 1)
  else if x.id = 0x0200 then
    within 0 1 (n 0 1) && within 8 26 (n 1 1) && within 500 4000 (n 2 2) && within 3300 12000 (n 4 2) &&
    within 150 800 (n 6 2) && within 1 253 (n 8 1) && within (n 8 1 + 1) 254 (n 9 1) &&
    within 0 42 (n 10 1) && n 10 1 % 6 == 0 && decide (2 ≤ n 11 1)
  else if [0x0201, 0x0202, 0x0203].contains x.id then
    within 10000 1000000 (n 0 4) && within 5000 (n 0 4) (n 4 4) && within 0 78643200 (n 8 4)
  else if [0x0301, 0x0302, 0x0303].contains x.id then
    within 10000 330000 (n 0 4) &&
    ((n 4 2 == 0 && n 6 2 == 0 && n 8 2 == 0) || n 4 2 + n 6 2 + n 8 2 == 10000) &&
    within 0 50000 (n 10 2) && within 0 2 (n 12 1)
  else if [0x0311, 0x0312, 0x0313].contains x.id then
    (points 8 v).all (fun p => within 0 100000000 (fieldN p 0 4) && within 800000 1200000 (fieldN p 4 4)) &&
    ascending ((points 8 v).map (fun p => (fieldN p 0 4 : Int)))
  else if x.id = 0x0400 then
    [0x00, 0x11, 0x12, 0x13, 0x14, 0x21, 0x22, 0x23, 0x24, 0xF0].contains (n 0 1)
  else if x.id = 0x0410 then
    (points 20 v).all (fun p => withinI (-2500) 15000 (fieldI p 0 2) && within 500000000 1500000000 (fieldN p 4 4) &&
      within 100000 100000000 (fieldN p 12 4) && within 800000 2200000 (fieldN p 16 4)) &&
    ascending ((points 20 v).map (fun p => fieldI p 0 2)) && ascending ((points 20 v).map (fun p => fieldI p 8 4))
  else if x.id = 0x0501 || x.id = 0x0502 then
    within 1 3 (n 0 1) && within 0 1 (n 1 1) && within 0 2 (n 2 1) && within 0 1 (n 3 1) && withinI (-2000) 5000 (z 4 2)
  else if x.id = 0x0600 then
    within 0 1 (n 0 1) &&
    (if n 0 1 = 0 then within 995000 1005000 (n 4 4) else within 497500 502500 (n 4 4)) &&
    within 0 10000 (n 8 2) && within 0 10000 (n 10 2) && within 0 10000 (n 12 2) && within 0 10000 (n 14 2)
  else if x.id = 0x0700 then
    (n 0 4 == 0 || within 100 10000000 (n 0 4)) && (n 4 4 == 0 || within 100 10000000 (n 4 4))
  else if x.id = 0x0800 then
    within 0 3 (n 0 1) && within 0 2 (n 1 1) &&
    AlarmSet.ok ⟨0, v.getD 2 0, v.getD 3 0, v.getD 4 0⟩ &&
    withinI (-4000) 8500 (z 6 2) && withinI (-100) 0 (z 8 2) && withinI (-10000) 10000 (z 10 2)
  else true

/-- Number of paths in use under a CFG_B code. -/
def pathsOf (code : Option (BitVec 3)) : Nat := ((pathsUsed code).toList.filter id).length

/-- Agreement with the straps (check 11, R91); where CFG_A or CFG_B is unknown the check fails (R510). -/
def strapsOk (a b : Option (BitVec 3)) (xs : List Section) : Bool :=
  a.isSome && b.isSome &&
  (a != some 2 || ((sectionOf 0x0001 xs).map (fun v => fieldN v 4 2 != 0)).getD false) &&
  Idx3.all.all (fun p => (sectionOf (pathId p) xs).isSome == (pathsUsed b).get p) &&
  Idx3.all.all (fun p =>
    match sectionOf (pipeId p) xs with
    | none => (pipePaths b p).isEmpty
    | some v =>
      let k := (pipePaths b p).length
      k != 0 && (k != 1 || fieldN v 6 2 == 0) && (k == 3 || fieldN v 8 2 == 0)) &&
  [0x0501, 0x0502].all (fun id =>
    match sectionOf id xs with
    | none => true
    | some v =>
      !(pipePaths b (if fieldN v 0 1 = 1 then .one else if fieldN v 0 1 = 2 then .two else .three)).isEmpty) &&
  ((sectionOf 0x0200 xs).map (fun v => decide (fieldN v 11 1 ≤ 12 / max 1 (pathsOf b)))).getD true

/-! ## The checks of Table 4.6 -/

/-- What the checks take from their surroundings. -/
structure CheckIn where
  firmware : Bool
  usable : Bool
  uid : BitVec 64
  /-- The owner row after the claim (R114). -/
  owner : Option (List Byte)
  codeA : Option (BitVec 3)
  codeB : Option (BitVec 3)
deriving DecidableEq, Repr, Inhabited

/-- Body length field. -/
def imgBody (b : List Byte) : Nat := fieldN b 8 4

/-- The check of structure for either kind (check 9). -/
def structureOk (firmware : Bool) (count : Nat) (body : List Byte) : Bool :=
  match sectionsOf body.length (body.drop 64) with
  | none => false
  | some xs =>
    xs.length == count && ascending (xs.map (fun x => (x.id : Int))) &&
    (if firmware then Config.vendorCatalogueOk body else xs.all lengthOk && xs.all reservedOk && dependOk xs)

/-- The sections of a body. -/
def bodySections (body : List Byte) : List Section := (sectionsOf body.length (body.drop 64)).getD []

/-- The reason of the first failed check of Table 4.6 over a bank's bytes; none when the bank is valid (R116, R510). -/
def checkImage (c : CheckIn) (b : List Byte) : Option Byte :=
  let n := imgBody b
  let body := b.take n
  let key := slice b n 64
  let magic := if c.firmware then 0x5A4D4657 else 0x5A4D4349
  let limit := if c.firmware then 65376 else 16224
  if !c.usable then some 0x0B
  else if !(fieldN b 0 4 == magic && fieldN b 4 2 == 1 && fieldN b 6 2 == 0x40 &&
      crc32 (slice b 0 0x3C) == BitVec.ofNat 32 (fieldN b 0x3C 4) && fieldN b 0x1E 2 == 0 && allEq 0 (slice b 0x28 0x14)) then
    some 0x01
  else if !(within 64 limit n && n % 4 == 0) then some 0x02
  else if !(within 1 0xFFFFFFFE (fieldN b 0x0C 4)) then some 0x03
  else if !(fieldN b 0x10 8 == 0 || fieldN b 0x10 8 == c.uid.toNat) then some 0x04
  else
    let digest := sha256 body
    if slice b (n + 64) 32 ≠ digest then some 0x05
    else if !(if c.firmware then key == Config.vendorKey else (c.owner.map (fun h => sha256 key == h)).getD true) then some 0x07
    else if !(Ecdsa.verify (fieldN key 0 32) (fieldN key 32 32) (fieldN b (n + 96) 32) (fieldN b (n + 128) 32) (natOfBe digest)) then
      some 0x06
    else if !structureOk c.firmware (fieldN b 0x1C 2) body then some 0x08
    else if !(if c.firmware then Config.vendorRangesOk body else (bodySections body).all fieldsOk) then some 0x09
    else if !(c.firmware || strapsOk c.codeA c.codeB (bodySections body)) then some 0x0A
    else none

/-! ## The parsed configuration -/

/-- A field where 0 selects the default. -/
def orElse (d n : Nat) : Nat := if n = 0 then d else n

/-- A path's section. -/
def parsePath (v : List Byte) : PathConf := ⟨fieldN v 0 4, fieldN v 4 4, fieldN v 8 4, fieldI v 12 2⟩

/-- A pipe's section with its profile table. -/
def parsePipe (v : List Byte) (table : List Byte) : PipeConf :=
  ⟨fieldN v 0 4, fieldN v 4 2, fieldN v 6 2, fieldN v 8 2, fieldN v 10 2, fieldN v 12 1,
   (points 8 table).map (fun p => (fieldN p 0 4, fieldN p 4 4))⟩

/-- A loop's section. -/
def parseLoop (v : List Byte) : LoopConf :=
  ⟨if fieldN v 0 1 = 1 then .one else if fieldN v 0 1 = 2 then .two else .three,
   fieldN v 1 1 == 1, fieldN v 2 1, fieldN v 3 1 == 1, fieldI v 4 2⟩

/-- A point of the custom table. -/
def parsePoint (p : List Byte) : MediumPoint := ⟨fieldI p 0 2, fieldN p 4 4, fieldI p 8 4, fieldN p 12 4, fieldN p 16 4⟩

/-- The configuration of a run of sections, absent ones at their Default columns, which depend on the supply mode (R83, R119). -/
def parseConf (link : Bool) (xs : List Section) : Conf :=
  let d := Conf.reset
  let get := fun id => sectionOf id xs
  let c : Conf := { d with cyclePeriod := if link then 2048 else 8192, tempInterval := if link then 2 else 30,
                           saveInterval := if link then 60 else 900 }
  let c := match get 0x0001 with
    | some v => { c with meterId := BitVec.ofNat 32 (fieldN v 0 4), mbusMan := BitVec.ofNat 16 (fieldN v 4 2),
                         mbusVer := v.getD 6 0, mbusMed := v.getD 7 0, label := slice v 8 8 }
    | none => c
  let c := match get 0x0100 with
    | some v => { c with cyclePeriod := orElse c.cyclePeriod (fieldN v 0 4), tempInterval := orElse c.tempInterval (fieldN v 4 2),
                         saveInterval := orElse c.saveInterval (fieldN v 6 2),
                         sweepInterval := if fieldN v 8 2 = 0xFFFF then none else some (orElse 900 (fieldN v 8 2)),
                         holdS := orElse 8 (fieldN v 10 1), idleMs := fieldN v 11 1 }
    | none => c
  let c := match get 0x0200 with
    | some v => { c with alternating := fieldN v 0 1 == 1, burst := fieldN v 1 1, freqKhz := fieldN v 2 2, vdrvMv := fieldN v 4 2,
                         permille := fieldN v 6 2, floorCode := fieldN v 8 1, ceiling := fieldN v 9 1,
                         fixedGainDb := fieldN v 10 1, stamps := fieldN v 11 1 }
    | none => c
  let path := fun p => ((get (pathId p)).map parsePath).getD (d.paths.get p)
  let pipe := fun p => ((get (pipeId p)).map (fun v => parsePipe v ((get (profileId p)).getD []))).getD (d.pipes.get p)
  let c := { c with paths := ⟨path .one, path .two, path .three⟩, pipes := ⟨pipe .one, pipe .two, pipe .three⟩ }
  let c := match get 0x0400 with
    | some v => { c with medium := fieldN v 0 1, custom := (points 20 ((get 0x0410).getD [])).map parsePoint }
    | none => c
  let c := { c with loopA := ((get 0x0501).map parseLoop).getD c.loopA, loopB := (get 0x0502).map parseLoop }
  let c := match get 0x0600 with
    | some v => { c with pt500 := fieldN v 0 1 == 1, refMohm := fieldN v 4 4,
                         leads := [fieldN v 8 2, fieldN v 10 2, fieldN v 12 2, fieldN v 14 2] }
    | none => c
  let c := match get 0x0700 with
    | some v => { c with energyMwh := fieldN v 0 4, volumeMl := fieldN v 4 4 }
    | none => c
  match get 0x0800 with
    | some v => { c with eventEdge := BitVec.ofNat 2 (fieldN v 0 1),
                         alarm := ⟨BitVec.ofNat 2 (fieldN v 1 1), v.getD 2 0, v.getD 3 0, v.getD 4 0⟩,
                         turnover100 := fieldI v 6 2, curve := fieldI v 8 2, offset10 := fieldI v 10 2 }
    | none => c

/-! ## Banks of the device -/

/-- The owner row as the shadows hold it (R143). -/
def Fuse.ownerHash (f : Fuse) : List Byte := ((f.shadow.drop 16).take 8).flatMap (be 4)

/-- The surroundings of a check in the present start. -/
def State.checkIn (s : State) (firmware : Bool) : CheckIn :=
  { firmware := firmware, usable := s.mem.usable, uid := s.fuse.uid,
    owner := if s.fuse.claim = .claimed then some s.fuse.ownerHash else none, codeA := s.code 0, codeB := s.code 1 }

/-- The bytes of a bank. -/
def Mem.bank (m : Mem) (firmware : Bool) (k : Bank) : List Byte :=
  if firmware then m.bytes (fwBase k) 65536 else m.bytes (confBase k) 16384

/-- The bank's check. -/
def State.checkBank (s : State) (firmware : Bool) (k : Bank) : Option Byte :=
  checkImage (s.checkIn firmware) (s.mem.bank firmware k)

/-- image_seq of a bank. -/
def Mem.bankSeq (m : Mem) (firmware : Bool) (k : Bank) : Nat := fieldN (m.bank firmware k) 0x0C 4

/-- A valid configuration bank put in use: the parsed configuration and what IDENTIFY reports, the EVENT edge setting and, while
alarm_src is 0 or the BKD was lost, the alarm, each through a commit (R16, R375, R383; log entry 86). -/
def useConf (k : Bank) (s : State) : State :=
  let img := s.mem.bank false k
  let c := parseConf s.linkSupply (bodySections (img.take (imgBody img)))
  let s := settle s
  let s := commitNow (.eventEdge c.eventEdge) (when (!s.bkd.alarmSrc || s.bkd.lost) (commitNow (.alarm c.alarm false)) s)
  { s with conf := c,
           banks := { s.banks with conf := some k, confSeq := BitVec.ofNat 32 (fieldN img 0x0C 4),
                                   imageId := BitVec.ofNat 32 (fieldN img 0x20 4),
                                   imageVersion := BitVec.ofNat 32 (fieldN img 0x24 4),
                                   created := BitVec.ofNat 32 (fieldN img 0x18 4) } }

/-- What is loaded from a firmware bank into the code SRAM: the bytes below body_length_bytes, over which the digest goes (R402). -/
def Mem.codeOf (m : Mem) (k : Bank) : List Byte :=
  let img := m.bank true k
  img.take (imgBody img)

/-- The SHA-256 digest of what the code SRAM holds. -/
def codeDigest (code : List Byte) : BitVec 256 := BitVec.ofNat 256 (natOfBe (sha256 code))

/-- A firmware bank loaded: its bytes in the code SRAM, its figures and the digest that later reloads are compared with (R393, R402,
R492). -/
def useFirmware (k : Bank) (s : State) : State :=
  let img := s.mem.bank true k
  { s with banks := { s.banks with fw := some k, fwSeq := BitVec.ofNat 32 (fieldN img 0x0C 4),
                                   fwVersion := BitVec.ofNat 32 (fieldN img 0x24 4),
                                   code := s.mem.codeOf k, fwDigest := codeDigest (s.mem.codeOf k) } }

end Sys2Proof.Machine
end

