-- ==== Sys2Proof/Machine/Tick.lean ====
section
/-!
DEFINITION. One period of the 32.768 kHz clock in which no command arrives: what counts LF periods counts one (log entry 11).
-/
namespace Sys2Proof.Machine

/-- The backup domain's counters: subseconds (Table 13.2), the device second's divider (R370), the cycle timer (R240) and the age
of the open read session (R371). -/
def Bkd.lf (b : Bkd) : Bkd :=
  if b.alive then
    { b with time := { b.time with subsec := if b.time.subsec.toNat < 32768 then b.time.subsec + 1 else b.time.subsec },
             devDiv := if b.devDiv.toNat < 32767 then b.devDiv + 1 else b.devDiv,
             timer := if b.timerOn then b.timer + 1 else b.timer,
             sessionAge := if b.shadow.isSome then b.sessionAge + 1 else b.sessionAge }
  else b

/-- What the presence check shows: its frequency count is complete after 64 LF periods (R18). -/
def Presence.check (p : Presence) : RefCheck := ⟨p.good, if p.periods = 64 then some p.cycles else none⟩

/-- One LF period of the presence check, with the edges of XIN in it and whether a cycle in it was not good. The count starts at the first
good edge (R18); one that has ended outside its window is made again (log entry 83). -/
def Presence.lf (p : Presence) (edges : Nat) (breaks : Bool) : Presence :=
  let good := if breaks then 0 else min 4096 (p.good + edges)
  if p.periods = 0 || p.check.offFrequency then
    if good = 0 then ⟨0, 0, 0⟩ else ⟨good, 1, edges⟩
  else if p.periods < 64 then ⟨good, p.periods + 1, p.cycles + edges⟩
  else ⟨good, p.periods, p.cycles⟩

/-- The reference is enabled and not declared yet, so that its presence is being checked. -/
def Clk.checks (k : Clk) : Bool := k.refOn && !k.declared

/-- The presence check over one LF period; what the oscillator gives is a free value. -/
def countPresence (s : State) : State :=
  if s.clk.checks then
    { s with clk := { s.clk with presence := s.clk.presence.lf (Config.xinEdges s.free) (Config.xinBreaks s.free) },
             free := s.free + 1 }
  else s

/-- The watchdog counts while the management core is out of reset in RUN, IDLE or SLEEP (R496). -/
def State.dogRuns (s : State) : Bool :=
  s.hmc.on && (s.power.state == .run || s.power.state == .idle || s.power.state == .sleep)

/-- One LF period. -/
def idleTick (s : State) : State :=
  let s := countPresence s
  { s with
    bkd := s.bkd.lf,
    hmc := if s.dogRuns then { s.hmc with dog := holdAt 65536 (s.hmc.dog + 1) } else s.hmc,
    snap := { s.snap with ageLf := holdAt 0xFFFFFF (s.snap.ageLf + 1) },
    temp := { s.temp with age := s.temp.age.map (fun a => holdAt (2 ^ 32 - 1) (a + 1)) } }

end Sys2Proof.Machine
end

