-- ==== Sys2Proof/Machine/Hmc.lean ====
section
/-!
DEFINITION. The management core's work at a management tick (R395, R494 to R498, R501, R521): sensors, compensation, saves, the log, the
FAULT_N latch and the watchdog.
-/
namespace Sys2Proof.Machine

/-! ## Sensors (R497, R498, Table 17.1) -/

/-- A level of VCORE in mV (Table 14.9). -/
def vcoreMv (sel : BitVec 2) : Nat := if sel = 0 then 620 else if sel = 1 then 750 else 900

/-- The readings of a tick with the die temperature corrected. -/
structure Readings where
  die100 : Int
  vbat : Nat
  vbk : Nat
  vio : Nat
  vcore : Nat
deriving DecidableEq, Repr

/-- The correction with die_temp_offset and die_temp_slope of fuse word 11 (R497, log entry 81). -/
def State.corrected (s : State) (r : Sensors) : Readings :=
  let w := s.fuse.shadow.getD 11 0
  { die100 := Config.dieTemperature (w.extractLsb' 16 16) (w.extractLsb' 0 16) r.dieRaw, vbat := r.vbat, vbk := r.vbk, vio := r.vio,
    vcore := r.vcore }

/-- Which of the five readings lie outside their limits. -/
def outsideLimits (vcore : BitVec 2) (r : Readings) : List Bool :=
  let l := vcoreMv vcore
  [decide (10500 < r.die100), !within 2800 3700 r.vbat, decide (3700 < r.vbk), !within 2800 3700 r.vio,
   decide (5 * l < 100 * ((r.vcore : Int) - l).natAbs)]

/-- The readings as events print them. -/
def readingsOf (r : Readings) : List (BitVec 16) :=
  [BitVec.ofInt 16 r.die100, BitVec.ofNat 16 r.vbat, BitVec.ofNat 16 r.vbk, BitVec.ofNat 16 r.vio, BitVec.ofNat 16 r.vcore]

/-- Ticks outside and inside in a row and whether outside was logged, after one more tick; and what is logged now. -/
def stepLimit (x : Nat × Nat × Bool) (out : Bool) : (Nat × Nat × Bool) × Option Bool :=
  if out then
    let n := holdAt 3 (x.1 + 1)
    if n = 3 && !x.2.2 then ((n, 0, true), some true) else ((n, 0, x.2.2), none)
  else
    let n := holdAt 3 (x.2.1 + 1)
    if n = 3 && x.2.2 then ((0, n, false), some false) else ((0, n, x.2.2), none)

/-- Event 0x0901 for sensor row k + 1. -/
def logLimit (k : Nat) (out : Bool) (v : BitVec 16) (s : State) : State :=
  raise 0x0901 (arg ((k + 1) * 2 ^ 24 + out.toNat * 2 ^ 23 + v.toNat)) s

/-- One sensor row checked. -/
def checkLimit (r : Readings) (s : State) (k : Nat) : State :=
  let x := stepLimit (s.hmc.outside.getD k (0, 0, false)) ((outsideLimits s.prq.vcore r).getD k false)
  let s := { s with hmc := { s.hmc with outside := s.hmc.outside.set k x.1 } }
  match x.2 with
  | some b => logLimit k b ((readingsOf r).getD k 0) s
  | none => s

/-- The span has passed since an instant, or there was none. -/
def elapsed (now : BitVec 32) (span : Nat) : Option (BitVec 32) → Bool
  | some t => decide (span ≤ (now - t).toNat)
  | none => true

/-- The sensor record of 3600 s. -/
def logSensors (r : Readings) (s : State) : State :=
  if elapsed s.now 3600 s.hmc.recordS then
    raise 0x0902 [BitVec.ofInt 32 r.die100, BitVec.ofNat 16 r.vbat ++ BitVec.ofNat 16 r.vbk, BitVec.ofNat 16 r.vio ++ BitVec.ofNat 16 r.vcore]
      { s with hmc := { s.hmc with recordS := some s.now } }
  else s

/-- The sensors are read; a die temperature 1.5 K from that of the last gain calibration makes one due (Table 7.9). -/
def readSensors (r : Readings) (s : State) : State :=
  let s := { s with hmc := { s.hmc with die100 := r.die100 },
                    seq := { s.seq with gainDue := s.seq.gainDue || decide (150 ≤ (r.die100 - s.hmc.dieAtCal).natAbs) } }
  logSensors r ((List.range 5).foldl (checkLimit r) s)

/-! ## Compensation (R378) -/

/-- comp_ppb. -/
def compensation (c : Conf) (die100 : Int) : Int :=
  let dt := die100 - c.turnover100
  clampI (-200000) 200000 (10 * c.offset10 + roundDiv (c.curve * dt * dt) 10000)

/-- The compensation group committed where it changes by 100 ppb, and once every 3600 s. -/
def compensate (s : State) : State :=
  let v := compensation s.conf s.hmc.die100
  if 100 ≤ (v - s.bkd.compPpb.toInt).natAbs || elapsed s.now 3600 s.hmc.compS then
    request (.compensation v) { s with hmc := { s.hmc with compS := some s.now } }
  else s

/-! ## The tick -/

/-- One event 0x0903 for each of `k` watchdog resets, with the number of the last 3600 s. -/
def dogEvents (n : Nat) : Nat → State → State
  | 0, s => s
  | k + 1, s => dogEvents n k (raise 0x0903 (arg n) s)

/-- Every watchdog reset since the last tick is logged (R496). The management core's next wake is its next tick (DEDUCED, log entry
85). -/
def logDogs (s : State) : State :=
  let n := (s.hmc.dogs.filter (fun t => decide ((s.now - t).toNat ≤ 3600))).length
  dogEvents n s.hmc.dogLog { s with hmc := { s.hmc with dogLog := 0 } }

/-- A scheduled save that is due (R348). -/
def scheduledSave (s : State) : State :=
  if s.save.due && s.mem.usable then requestMem (.save false 0 none) { s with save := { s.save with due := false } } else s

/-- alive_s, once per wake (R352). -/
def writeAlive (s : State) : State :=
  match s.ee.lastIntS with
  | some t => request (.alive t) s
  | none => s

/-- The event queue goes to the log (R501). -/
def writeLog (s : State) : State :=
  if s.mem.usable && !s.eva.queue.isEmpty && !s.mem.logAsked then requestMem .log s else s

/-- The work of a tick, in the order it is done here; the FAULT_N conditions at its end and then the watchdog's service. -/
def manage (r : Sensors) (s : State) : State :=
  let s := compensate (readSensors (s.corrected r) (Idx3.all.foldl reportHours (logDogs (serveAlarm s))))
  let s := releaseFault (writeLog (writeAlive (scheduledSave s)))
  { s with hmc := { s.hmc with tickS := some s.now, dog := 0 }, power := { s.power with heldMgmt := none },
           bkd := { s.bkd with strobe := false } }

/-- The management core votes RUN for a tick's work, and until what it asked of MEMC is done (Table 14.2). -/
def workTick (r : Sensors) (s : State) : State := memVote (manage r (voteFor .hmc 0 s))

/-- The BKD raises a tick: a device second after the previous one, and the first after the strobe of a cycle's snapshot (R395). -/
def State.tickDue (s : State) : Bool :=
  match s.hmc.tickS with
  | some t => decide (1 ≤ (s.now - t).toNat)
  | none => s.bkd.strobe

/-- The sensors are read after the snapshot of the tick's cycle, while VDRV is off (R497). -/
def State.sensorsReady (s : State) : Bool := s.seq.phase == .none && !s.prq.vdrv

/-- A held management tick is taken once the management core is awake and may read its sensors (R405, R497). -/
def takeMgmt (s : State) : State :=
  match s.power.heldMgmt with
  | some r => if s.awake && s.power.trans == .none && s.hmc.on && s.sensorsReady then workTick r s else s
  | none => s

end Sys2Proof.Machine
end

