-- ==== Sys2Proof/Machine/Snap.lean ====
section
/-!
DEFINITION. The snapshot (R25, R538): the parts of Table 16.14 as bytes, and the taking of a snapshot at the end of a cycle, at S11, at
entry to Basalt mode and on exit from DEEP SLEEP.
-/
namespace Sys2Proof.Machine

/-! ## Header (Tables 13.2, 16.16) -/

/-- A byte of flags, bit 7 first. -/
def flagByte (b7 b6 b5 b4 b3 b2 b1 b0 : Bool) : Byte := bitsOf 8 [b0, b1, b2, b3, b4, b5, b6, b7]

/-- The fields of Table 13.2. -/
def TimeRegs.bytes (t : TimeRegs) : List Byte :=
  be 2 t.subsec ++ [t.cal.sec, t.cal.min, t.cal.hour, t.weekday, t.cal.date, t.cal.month, t.cal.year,
    flagByte t.osf t.lbf t.alarmFlag t.alarmLate t.lfIsRc false false false] ++ be 4 t.deviceS

/-- Codes of the role in the mode byte (Table 16.16). -/
def Role.code : Role → BitVec 2
  | .standAlone => 0
  | .member => 1
  | .head => 2

/-- The mode byte. -/
def modeByte (r : Role) (basalt absent parked : Bool) : Byte :=
  r.code ++ BitVec.ofBool basalt ++ BitVec.ofBool absent ++ BitVec.ofBool parked ++ (0 : BitVec 3)

/-- An address in bits 15 to 6. -/
def addressWord (a : BitVec 10) : BitVec 16 := a ++ (0 : BitVec 6)

/-- Table 16.16. -/
def Snapshot.header (x : Snapshot) : List Byte :=
  x.time.bytes ++ be 4 x.eventSeq ++ [BitVec.ofNat 8 x.pstate.toCode, modeByte x.role x.basalt x.absent x.parked] ++
    be 2 (addressWord x.address) ++ zeros 2

/-! ## SEQ (Table 8.4) -/

/-- pending_jobs. -/
def Seq.jobByte (q : Seq) : Byte := flagByte false false false false q.gainDue q.tempDue q.inlDue q.sweepDue

/-- Table 8.4. -/
def seqPart (s : State) : List Byte :=
  let q := s.seq
  let sweep := q.kind == .sweep
  be 4 q.cycles ++ [flagByte q.parity s.conf.alternating sweep s.ag.dithers q.unfit false false false, q.jobByte] ++
    beI 2 (if sweep then 0 else q.dither) ++ beN 3 s.conf.cyclePeriod ++ [0] ++ be 2 q.skipped ++ be 2 q.lenUs ++
    be 2 q.altGap ++ be 2 q.sweeps ++ be 4 q.lastSweepS

/-! ## AFE (Table 16.17) -/

/-- A direction's eight bytes. -/
def AfeDir.bytes (x : AfeDir) : List Byte :=
  [BitVec.ofNat 4 x.result.code ++ BitVec.ofBool x.saturated ++ BitVec.ofBool x.lock.isSome ++
     BitVec.ofBool (x.lock == some true) ++ (0 : BitVec 1), x.peak, x.thr, 0] ++ be 2 x.skips ++ zeros 2

/-- A path's record. -/
def AfePath.bytes (x : AfePath) : List Byte :=
  [x.gain.setWidth 8, BitVec.ofNat 8 x.nUsed] ++ zeros 2 ++ x.dirs.up.bytes ++ x.dirs.dn.bytes ++ zeros 12

/-- The AFE part. -/
def afePart (s : State) : List Byte := s.afe.toList.flatMap AfePath.bytes

/-- The result counters (Table 16.14, part 0x03). -/
def countPart (s : State) : List Byte :=
  s.afe.toList.flatMap (fun x => x.dirs.up.counts.flatMap (be 2) ++ x.dirs.dn.counts.flatMap (be 2))

/-! ## TIU (Table 7.11) -/

/-- n_eff of a path as published. -/
def State.nEffShown (s : State) (p : Idx3) : BitVec 4 :=
  if s.pathUsed p && !s.inBasalt && !s.lacksSlots p then BitVec.ofNat 4 (s.nEffOf p) else 0

/-- window_state of a path. -/
def State.windowShown (s : State) (p : Idx3) : BitVec 2 :=
  let t := s.tiu.paths.get p
  if !s.pathUsed p || s.inBasalt then 3
  else
    match t.window with
    | .acquisition => 0
    | .tracked => if t.miss = 0 then 1 else 2

/-- cal_age_s. -/
def State.calAge (s : State) : Nat :=
  match s.tiu.gainAtS with
  | some t => holdAt 65535 (s.now - t).toNat
  | none => 0

/-- vernier_check. -/
def Tiu.vernierCheck (t : Tiu) : Byte := BitVec.ofBool t.checkPass ++ t.checkDev

/-- Table 7.11. -/
def tiuPart (s : State) : List Byte :=
  let t := s.tiu
  be 3 t.retiredMask ++ [BitVec.ofNat 8 (ones t.retiredMask)] ++ be 3 t.s10Mask ++
    be 2 (s.nEffShown .one ++ s.nEffShown .two ++ s.nEffShown .three ++ (0 : BitVec 4)) ++
    [(0 : BitVec 2) ++ s.windowShown .one ++ s.windowShown .two ++ s.windowShown .three] ++
    be 2 t.convFail ++ be 2 t.repeats ++ beN 2 s.calAge ++ be 2 t.res10fs ++ be 2 t.ring100fs ++
    [t.vernierCheck, t.testSeq, t.testResult.setWidth 8] ++ be 5 t.testTicks ++ zeros 4

/-! ## FE (Tables 9.7, 9.8) -/

/-- dt_mean_x16: the mean of the two parity means, or of the one there is (R278). -/
def FePath.dtMean (f : FePath) : Int :=
  match f.dts0, f.dts1 with
  | [], [] => 0
  | xs, [] => roundDivI (sumI xs) (16 * xs.length)
  | [], ys => roundDivI (sumI ys) (16 * ys.length)
  | xs, ys => roundDivI (sumI xs * ys.length + sumI ys * xs.length) (32 * xs.length * ys.length)

/-- Held from the values of one parity only. -/
def FePath.heldOne (f : FePath) : Bool := f.state == .held && f.oneParity

/-- A path's record; that of an unused path holds its defaults. -/
def FePath.bytes (f : FePath) : List Byte :=
  if f.state = .notUsed then zeros 32
  else
    be 5 f.tUp16 ++ be 5 f.tDn16 ++ be 4 f.dt16 ++ be 4 f.vUm ++ be 3 f.c ++
      [BitVec.ofNat 4 f.pair.code ++ BitVec.ofBool f.heldOne ++ BitVec.ofNat 3 f.state.code] ++
      be 2 f.holdAge ++ be 2 f.invalidCount ++ beI 4 f.dtMean ++ be 2 f.spread

/-- A pipe's record. -/
def FePipe.bytes (f : FePipe) : List Byte :=
  if f.state = .notUsed then zeros 32
  else
    beI 6 f.q ++ beI 4 (roundDiv f.v 1000) ++ be 4 f.re ++ be 3 f.k ++
      [flagByte f.implausible f.substituted f.cutoff f.renorm false false false false ||| BitVec.ofNat 8 f.state.code,
       f.inUse.setWidth 8] ++
      beI 2 f.corr ++ be 2 f.cDev ++ be 2 f.tFlow100 ++ zeros 7

/-- The FE part. -/
def fePart (s : State) : List Byte := s.fe.paths.toList.flatMap FePath.bytes ++ s.fe.pipes.toList.flatMap FePipe.bytes

/-! ## AG (Table 10.2) -/

/-- A pipe's record of 48 bytes. -/
def AgPipe.bytes (p : AgPipe) : List Byte :=
  [BitVec.ofBool p.clamped ++ BitVec.ofBool p.suppressed ++ p.refPath ++ BitVec.ofNat 4 p.result.code, p.maxGap] ++
    be 2 p.nPresent ++ be 2 p.f0c100 ++ [p.nHarm, 0] ++ be 4 p.vTrueUm ++ be 4 p.vSelUm ++ beI 2 p.corr ++ be 2 p.foldBack ++
    p.amps.flatMap (be 2) ++ zeros 4

/-- Table 10.2. -/
def agPart (s : State) : List Byte :=
  let a := s.ag
  [flagByte a.inUse a.dithers a.outOfService a.lastInvalid a.abandoned false false false, 0] ++
    be 2 a.resultSweep ++ be 4 a.resultS ++ beN 2 (if a.dithers then ditherMax s.conf.cyclePeriod else 0) ++ be 2 a.seed ++
    zeros 4 ++ a.pipes.toList.flatMap AgPipe.bytes

/-! ## Temperature (Table 11.5) -/

/-- set_age_100ms. -/
def Temp.age100 (t : Temp) : Nat :=
  match t.age with
  | some a => holdAt 65535 (a * 10 / 32768)
  | none => 65535

/-- A sensor's record. -/
def Sensor.bytes (x : Sensor) : List Byte :=
  be 4 x.t ++ be 4 x.rMohm ++ [BitVec.ofNat 4 x.last.code ++ BitVec.ofNat 4 x.state.code, 0] ++ be 2 x.faults

/-- Table 11.5. -/
def tempPart (s : State) : List Byte :=
  let t := s.temp
  be 4 t.sets ++ beN 2 t.age100 ++ be 3 t.tRef10 ++
    [flagByte t.mismatch t.lastReference t.lastNoResult s.seq.tempDue t.restarted false false false] ++
    beN 2 (holdAt 65535 s.straps.tsrefOhm) ++ be 2 t.setFails ++ zeros 2 ++ t.sensors.flatMap Sensor.bytes

/-- The temperature part at its defaults. -/
def tempDefaults : List Byte := zeros 4 ++ [0xFF, 0xFF] ++ zeros 58

/-! ## EE (Table 12.4) -/

/-- A pipe's record; zeros where CFG_B does not provide it. -/
def State.eePipe (s : State) (p : Idx3) : List Byte :=
  if (s.pipePaths p).isEmpty then zeros 32
  else
    let x := s.ee.pipes.get p
    be 8 x.fwd ++ be 6 x.rev ++ be 4 x.errS ++ zeros 14

/-- A loop's record. -/
def State.eeLoop (s : State) (l : LoopId) : List Byte :=
  if !s.loopExists l then zeros 48
  else
    let x := s.ee.loop l
    be 8 x.heat ++ be 8 x.cold ++ be 8 x.mass ++ be 4 x.errS ++ be 4 x.estHeat ++ be 4 x.estCold ++ be 4 x.power ++
      [BitVec.ofBool x.reverse ++ BitVec.ofBool x.outOfRange ++ (0 : BitVec 2) ++ x.state] ++ zeros 7

/-- Table 12.4. -/
def eePart (s : State) : List Byte :=
  let e := s.ee
  [flagByte e.restored e.unsaved e.massRestart s.save.degraded e.pulseLost e.lowSave false false, 0] ++
    be 2 e.lost ++ be 4 s.save.atS ++ be 4 s.save.seq ++ be 2 e.padA.pending ++ be 2 e.padB.pending ++ be 4 e.unsavedS ++
    zeros 4 ++ s.eePipe .one ++ s.eePipe .two ++ s.eePipe .three ++ s.eeLoop .a ++ s.eeLoop .b

/-! ## Link physical (Table 15.9) -/

/-- Table 15.9. -/
def phyPart (s : State) : List Byte :=
  let p := s.phy
  be 2 p.meas.lu100 ++ be 2 p.meas.ld100 ++ be 2 p.meas.pass10 ++
    [flagByte (p.ins == .inserted) p.tail p.isolated p.powerFail p.inLimit p.retrying p.inverted false, 0] ++
    be 2 p.inserts ++ be 2 p.isolates ++ be 2 p.violations ++ be 2 p.powerFails

/-! ## Taking a snapshot -/

/-- A head that runs no cycles of its own still publishes; the flow of loop A's pipe. -/
def State.loopAPipe (s : State) : FePipe := s.fe.pipes.get s.conf.loopA.pipe

/-- The header, TIU, status and link physical fields of a snapshot with the present values, on a session's frozen time; its age counts from
that session's freeze edge (R480). -/
def presentParts (t : TimeRegs) (x : Snapshot) (s : State) : Snapshot :=
  { x with time := t, eventSeq := s.eva.last, pstate := s.power.state, role := s.role, basalt := s.inBasalt,
           absent := s.clk.absent, parked := s.power.parked.isSome, address := s.lnk.address, ageLf := s.bkd.sessionAge,
           tiu := tiuPart s, status := statusWord s, flags := s.flags, phy := phyPart s }

/-- The EE part of a snapshot, and what records and saves take from the registers. -/
def registerParts (t : TimeRegs) (x : Snapshot) (s : State) : Snapshot :=
  let a := s.ee.loopA
  { x with ee := eePart s, regs := saveBody t.deviceS s.ee, volumeUl := (s.ee.pipes.get s.conf.loopA.pipe).fwd,
           heatMwh := a.heat, coldMwh := a.cold }

/-- The snapshot of a completed cycle (R25). Its session's frozen fields give its time (R374), and its strobe goes to the BKD (R16). -/
def takeSnapshot (s : State) : State :=
  let t := s.frozen
  let sens := s.sensorsOf .a
  let x := registerParts t (presentParts t s.snap s) s
  strobe { s with
    snap := { x with seq := seqPart s, afe := afePart s, afeCounts := countPart s, fe := fePart s, ag := agPart s,
                     temp := tempPart s, sweepCycle := s.seq.kind == .sweep, flowNlS := s.loopAPipe.q,
                     supply := (s.sensor sens.1).t.toInt, ret := (s.sensor sens.2).t.toInt },
    save := { s.save with current := false } }

/-- A snapshot with no cycle, on a read session opened for it alone (R371, R484, R538). -/
def ownSession (f : TimeRegs → State → Snapshot) (s : State) : State :=
  let t := awaitShadows (openSession s)
  releaseSession { t with snap := f t.frozen t }

/-- The initial snapshot, with no cycle (R538): the fields that R538 does not name hold the defaults of their tables. -/
def initialParts (t : TimeRegs) (s : State) : Snapshot :=
  { registerParts t (presentParts t Snapshot.reset s) s with
    seq := zeros 8 ++ beN 3 s.conf.cyclePeriod ++ zeros 13, temp := tempDefaults }

/-- The initial snapshot taken. -/
def initialSnapshot (s : State) : State :=
  let s := ownSession initialParts s
  { s with save := { s.save with current := false } }

/-- Requests for `n` saves of kind 0 from the present snapshot. -/
def alarmSaves : Nat → State → State
  | 0, s => s
  | n + 1, s => alarmSaves n (requestMem (.save false 0 (some s.snap.regs)) s)

/-- The saves of the alarm firings, from the first snapshot after their grants: one for each (R387). -/
def alarmSave (s : State) : State :=
  if s.hmc.on && s.mem.usable then alarmSaves s.save.dueAfterSnap { s with save := { s.save with dueAfterSnap := 0 } } else s

/-- The snapshot of Basalt mode: parts 0x00, 0x04 and 0x0A (R484, R538). The registers that its save of kind 2 takes at the exit are those
that the Flint banks hold (R132, log entry 34). -/
def basaltParts (t : TimeRegs) (s : State) : Snapshot :=
  { presentParts t Snapshot.reset s with phy := zeros 16, regs := saveBody t.deviceS s.ee }

/-- The snapshot of Basalt mode taken. -/
def basaltSnapshot (s : State) : State := ownSession basaltParts s

/-! ## Parts (Table 16.14) -/

/-- A part's bytes; none where the part is unknown. -/
def Snapshot.part (x : Snapshot) : Nat → Option (List Byte)
  | 0 => some x.header
  | 1 => some x.seq
  | 2 => some x.afe
  | 3 => some x.afeCounts
  | 4 => some x.tiu
  | 5 => some x.fe
  | 6 => some x.ag
  | 7 => some x.temp
  | 8 => some x.ee
  | 9 => some x.phy
  | 10 => some (statusPart x.status x.flags)
  | _ => none

end Sys2Proof.Machine
end

