-- ==== Sys2Proof/Machine/Power.lean ====
section
/-!
DEFINITION. The power controller (chapter 14): requests to the regulator, entry to the lower states, exit from them, wake failures,
park, and the beginning of a cycle as far as it concerns power.
-/
namespace Sys2Proof.Machine

/-! ## The regulator request link (R410 to R415) -/

/-- A request word with odd parity (Table 14.9). -/
def requestWord (sel : BitVec 2) (en : Bool) (code : BitVec 7) (tag : BitVec 3) : BitVec 16 :=
  let w : BitVec 16 := (2 : BitVec 2) ++ sel ++ BitVec.ofBool en ++ code ++ tag ++ (0 : BitVec 1)
  if ones w % 2 = 0 then w ||| 1 else w

/-- vcore_sel of a word. -/
def selOf (w : BitVec 16) : BitVec 2 := w.extractLsb' 12 2

/-- vdrv_en of a word. -/
def enOf (w : BitVec 16) : Bool := w.getLsbD 11

/-- tag of a word. -/
def tagOf (w : BitVec 16) : BitVec 3 := w.extractLsb' 1 3

/-- vdrv_code. -/
def Conf.vdrvCode (c : Conf) : BitVec 7 := BitVec.ofInt 7 (roundDiv ((c.vdrvMv : Int) - 3300) 100)

/-- A request goes out under the next tag; the brown-out threshold takes a downward level at its end (R410, R415). -/
def transmit (why : PrqWhy) (second : Bool) (sel : BitVec 2) (en : Bool) (s : State) : State :=
  let w := requestWord sel en (if en then s.conf.vdrvCode else 0) s.prq.tag
  let bor := s.prq.bor.map (fun l => if sel.toNat < l.toNat then sel else l)
  { s with prq := { s.prq with tag := s.prq.tag + 1, req := some ⟨w, why, second⟩, bor := bor } }

/-- A request, when none is outstanding. -/
def send (why : PrqWhy) (sel : BitVec 2) (en : Bool) (s : State) : State :=
  if s.prq.req.isSome then s else transmit why false sel en s

/-- VDRV is released on its own while the device stays awake and no sweep needs it; otherwise with the request of the entry that follows
(Table 8.2 step 13). -/
def releaseVdrv (s : State) : State :=
  if s.prq.vdrv && s.prq.req.isNone && !s.seq.sweepOn && (s.power.target < 2 || s.seq.job.isSome || s.seq.pfStop) then
    transmit .releaseVdrv false 2 false s
  else s

/-- The request raises the voltage or sets VDRV (R413). -/
def Prq.upward (p : Prq) (w : BitVec 16) : Bool := decide (p.vcore.toNat < (selOf w).toNat) || (enOf w && !p.vdrv)

/-- What a poll says of a request (R412): acknowledged, refused, or not yet an answer. -/
inductive Poll where
  | ack | refused | none
deriving DecidableEq, Repr

/-- Table 14.10. -/
def pollOf (w : BitVec 16) (status : Byte) : Poll :=
  if ones status % 2 = 0 || status.extractLsb' 5 3 != tagOf w then .none
  else if status.getLsbD 2 then .refused
  else if status.getLsbD 4 && status.getLsbD 3 && !status.getLsbD 1 then .ack
  else .none

/-! ## Entry (Table 14.4) -/

/-- The part goes into deep power-down on entry to DEEP SLEEP and OFF when dpd_instr is set (Table 14.4 step 1, R99). -/
def Mem.sleepFor (m : Mem) (p : PState) : Mem :=
  if (p == .deep || p == .off) && m.usable && m.dpd != 0 then { m with asleep := true } else m

/-- Steps 1 to 3: once MEMC is idle and no request is outstanding, deep power-down, and the request, or for OFF the commit. -/
def entryRequest (p : PState) (s : State) : State :=
  if s.mem.busy.isSome || s.prq.req.isSome then { s with power := { s.power with trans := .entryMemc p, idleTimer := false } }
  else
  let s := { s with mem := s.mem.sleepFor p }
  if p = .off then request (.entry .off) { s with power := { s.power with trans := .entryCommit .off, idleTimer := false } }
  else
    transmit (.entry p) false (if p = .deep then 0 else 1) false
      { s with power := { s.power with trans := .entryPrq p, idleTimer := false } }

/-- The entry goes on when MEMC falls idle (Table 14.4 step 1). -/
def entryGoesOn (s : State) : State :=
  match s.power.trans with
  | .entryMemc p => entryRequest p s
  | _ => s

/-! ## The cycle's end as power sees it (Table 8.2 step 13) -/

/-- The votes of SEQ, TIU and FE are withdrawn, and EE's after its last pulse (R358); a direct test that runs keeps the TIU's. -/
def withdraw (s : State) : State :=
  eeVote (revote (fun p => { p with seq := 2, tiu := if s.tiu.testing then p.tiu else 2, fe := 2 }) s)

/-- A cycle that has not launched ends without trace: its session is released (R417, R418). A sweep that it would have begun stays due, and
a reset of AG since its tick concerns no later sweep (Table 10.3). -/
def dropCycle (s : State) : State :=
  if s.seq.phase = .before then
    withdraw (releaseSession { s with
      seq := { s.seq with phase := .none, acked := false, kind := .normal, job := none, jobs := [] },
      ag := { s.ag with noResult := s.ag.noResult && s.seq.kind != .sweep } })
  else s

/-! ## Park (R397, R398) -/

/-- Nothing that park entry waits for is running; a pulse that is high or in its low time completes its 10 ms. During a power-fail warning
the device stays in RUN (Table 12.6 step 4). -/
def State.parkReady (s : State) : Bool :=
  s.power.trans == .none && !s.power.serving && s.awake && s.prq.req.isNone && s.seq.phase == .none && !s.seq.sweepOn &&
  !s.ag.analysing && !s.seq.pfStop && s.seq.job.isNone && s.temp.set.isNone && s.ee.padA.phase == .idle && s.ee.padB.phase == .idle

/-- Entry to OFF drops the pulse pending counts and logs them. -/
def dropPulses (s : State) : State :=
  let a := s.ee.padA
  let b := s.ee.padB
  raise 0x0206 (arg (a.pending.toNat * 65536 + b.pending.toNat))
    { s with ee := { s.ee with padA := { a with pending := 0 }, padB := { b with pending := 0 } } }

/-- Park entry, when it can run: session, pulses, what MEMC was asked, log, a save of kind 0, and the entry without idle timer. -/
def parkNow (s : State) : State :=
  match s.power.parked with
  | none => s
  | some p =>
    if s.parkReady then
      let s := closeSession 1 0 s
      let s := when (p == .off) dropPulses s
      entryRequest p (saveNow 0 (flushLog (finishAll memDepth s)))
    else s

/-- Table 14.3. Every target ends a vote that an earlier request held. The service of a hit goes on only for a member that was parked and stays
so (R486). -/
def Power.aim (n : BitVec 3) (p : Power) : Power :=
  if n = 3 then { p with parked := some .deep, hold := none, idleTimer := false, serving := p.serving && p.parked.isSome }
  else if n = 4 then { p with parked := some .off, hold := none, idleTimer := false, serving := p.serving && p.parked.isSome }
  else { p with parked := none, serving := false, hold := if n = 2 then none else some (if n = 0 then 0 else 1) }

/-- A target takes effect; when it ends a park, the votes in force decide. -/
def applyTarget (n : BitVec 3) (s : State) : State :=
  let t := revote (Power.aim n) s
  if s.power.parked.isSome then reach t else t

/-- A sweep stands between its start and its 256th snapshot (R265). -/
def State.inSweep (s : State) : Bool := s.seq.sweepOn || (s.seq.kind == .sweep && s.seq.phase == .before)

/-- A target that waited takes effect once no transition and no sweep goes on (R408, R409). -/
def takeLatched (s : State) : State :=
  match s.power.latchedState with
  | some n =>
    if s.power.trans == .none && !s.inSweep then applyTarget n { s with power := { s.power with latchedState := none } } else s
  | none => s

/-- A target that waited, and then park entry, as far as each can run. -/
def tryPark (s : State) : State := parkNow (takeLatched s)

/-- A target has to wait: for the end of a transition (R408), or, a lower state, for that of a sweep (Tables 8.5, 14.8). -/
def State.targetWaits (s : State) (n : BitVec 3) : Bool := s.power.trans != .none || (s.inSweep && n != 0)

/-- A STATE target: at once, or latched while it has to wait; the latest one wins (R408). -/
def stateTarget (n : BitVec 3) (s : State) : State :=
  if s.targetWaits n then { s with power := { s.power with latchedState := some n } }
  else tryPark (applyTarget n { s with power := { s.power with latchedState := none } })

/-! ## Pre-cycle jobs (Table 8.2 step 3, R261, R263) -/

/-- Once the voltage is acknowledged and the core is on the reference, the job that the cycle waits for begins: the full calibration
after regaining the reference, the gain calibration after DEEP SLEEP, or a sweep's own conversion set. -/
def preCycle (s : State) : State :=
  if s.seq.phase == .before && s.seq.kind != .suspended && s.seq.acked && s.clk.onRef && s.seq.job.isNone then
    if s.seq.preFull then voteFor .tiu 0 { s with seq := { s.seq with job := some .full } }
    else if s.seq.preGain then voteFor .tiu 0 { s with seq := { s.seq with job := some .preGain } }
    else if s.seq.kind == .sweep && s.seq.jobs.contains .temp then
      let t := if s.temp.mismatch then s else startSet true s
      voteFor .tiu 0 { t with seq := { t.seq with jobs := [], job := if t.temp.set.isSome then some .temp else none } }
    else s
  else s

/-! ## What follows the end of a request or a transition -/

/-- The next request that waits: an entry's, or a cycle's for VDRV. -/
def prqNext (s : State) : State :=
  if s.prq.req.isSome then s
  else
    match s.power.trans with
    | .entryMemc p => entryRequest p s
    | .none | .exitSleep =>
      if s.seq.phase == .before && !s.seq.acked && s.power.fail.isNone then send .cycle 2 true s else preCycle s
    | .entryPrq _ | .entryCommit _ | .lossWindow _ | .deepStrobe | .deepStart | .deepReload => s

/-! ## A cycle begins (Table 8.2 steps 1 and 2) -/

/-- SEQ votes RUN, opens its read session (R374) and asks for VDRV; the reference is enabled if it is off. -/
def beginCycle (kind : CycleKind) (s : State) : State :=
  let s := openSession (voteFor .seq 0 s)
  prqNext { s with
    seq := { s.seq with phase := .before, kind := kind, begin := s.seq.nominal + BitVec.ofInt 32 s.seq.dither, acked := false,
                        repeated := .const false, fired := .const false, lenUs := 0, altGap := 0, driveNow := false,
                        jobs := if kind = .sweep then [.temp] else [] },
    afe := s.afe.map (fun x => { x with drive := false, clamp := .const false }),
    clk := { s.clk with refOn := true } }

/-- Charged slots on the busiest SAR when every stamp of the directions `ds` of the fired paths is charged in a cycle of the given
parity (R201). -/
def State.busiest (s : State) (ps : List Idx3) (parity : Bool) (ds : List Dir) : Nat :=
  let charged := ps.flatMap (fun p => ds.flatMap (fun d => (setFor (setsAB (s.goodOf p)) parity d).take (s.nEffOf p)))
  ((List.range 6).map (fun k => (charged.filter (fun x => x / 4 == k)).length)).foldl max 0

/-- The cycle launched now fits within the sweep spacing, leaving out any repeat (R266): in grid units, 96 to a microsecond. After its last
window close the conversions of its last launch follow. -/
def State.cycleFits (s : State) : Bool :=
  let ps := Idx3.all.filter s.seq.fired.get
  let loops := if s.loopExists .b then 2 else 1
  let d := firstDir s.seq.parity
  let last := if s.conf.alternating then [otherDir d] else [.up, .dn]
  let tail := 2 + 2 * s.busiest ps s.seq.parity last + (10 + 10 * ps.length) + (5 + 5 * loops)
  let close := if s.conf.alternating then 2 * s.latestClose ps [d] + s.latestClose ps [otherDir d] else s.latestClose ps [.up, .dn]
  decide (close + 96 * tail ≤ 96 * 1850)

/-- The next tick that SEQ takes begins a sweep. -/
def State.beginsSweep (s : State) : Bool := !s.clk.absent && s.seq.sweepDue && !s.start.agOut && s.seq.lastFits

/-- A tick that SEQ takes begins a cycle: suspended while the reference is absent, a sweep when one is due and the last normal cycle fits,
else normal (R19, R263, R266). -/
def takeTick (s : State) : State :=
  if s.clk.absent then beginCycle .suspended s
  else if s.beginsSweep then beginCycle .sweep { s with seq := { s.seq with unfit := false } }
  else if s.seq.sweepDue && !s.start.agOut then
      let s1 := { s with seq := { s.seq with unfit := true, unfitLogged := true } }
      beginCycle .normal (if s.seq.unfitLogged then s1 else raise 0x0404 (arg 0) s1)
  else beginCycle .normal s

/-! ## The end of a transition -/

/-- A hit that a device still parked takes is served before its park entry runs again (R405, R486). -/
def Power.servesHit (p : Power) : Bool := p.serving || (p.heldMatcher && p.parked.isSome)

/-- What was held while a transition ran is taken by the core that is now awake: a wake request, a management tick, whose work is done, and
a cycle tick, which begins its cycle (R405). -/
def takeHeld (s : State) : State :=
  if s.awake && s.power.fail.isNone then
    let s := takeMgmt s
    let tick := s.power.heldTick && s.seq.phase == .none && s.power.parked.isNone && !s.seq.pfStop
    let s := { s with power := { s.power with heldWake := false, heldMatcher := false, serving := s.power.servesHit,
                                              heldTick := s.power.heldTick && !tick } }
    when tick takeTick s
  else s

/-- A WAKE that is pending where a transition ends clears the park, that of a STATE latched in the transition too (R408, Table 14.7). -/
def wakeUnparks (s : State) : State :=
  if s.power.heldWake then { s with power := { s.power with parked := none, serving := false } } else s

/-- A transition ends (R408): the latest STATE target, the pending wake requests and the votes are evaluated, and then a park entry that is
due begins. -/
def endTransition (s : State) : State :=
  tryPark (prqNext (takeHeld (afterWake (reach (wakeUnparks (takeLatched { s with power := { s.power with trans := .none } }))))))

/-! ## A wake that fails (R417, R418) -/

/-- Where a failed request's device came from. -/
def State.cameFrom (s : State) : PrqWhy → PState
  | .wake _ => .sleep
  | .deepExit => .deep
  | .cycle => s.power.state
  | .retry => (s.power.fail.map WakeFail.fromState).getD s.power.state
  | .releaseVdrv => s.power.state
  | .entry p => p

/-- The failure: ledger, event, latched flag, FAULT_N, the dropped cycle, and the way back. -/
def wakeFails (back : PState) (reason : Byte) (s : State) : State :=
  let f := s.power.fail.getD ⟨0, back, s.now, reason⟩
  let s := { s with prq := { s.prq with req := none } }
  let s := dropCycle (editLedger (fun l => { l with stepFailed := 4, failReason := reason }) s)
  let s := setFault (raiseFlag flagWakeFail 0x0201 (arg (reason.toNat * 2 ^ 24 + f.attempt % 256)) s)
  let s := { s with power := { s.power with fail := some { f with reason := reason } } }
  match back with
  | .run => endTransition s
  | .idle => endTransition s
  | p => entryRequest p s

/-- The first acknowledged attempt ends the failure (R418). -/
def recover (s : State) : State :=
  match s.power.fail with
  | none => s
  | some f =>
    let s := editLedger (fun l => { l with stepFailed := 0xF, failReason := 0 }) { s with power := { s.power with fail := none } }
    raise 0x0202 (arg (s.now - f.sinceS).toNat) s

/-! ## The end of a request -/

/-- A request that is an attempt to wake, to retry or to raise VDRV (R418). -/
def PrqWhy.attempt : PrqWhy → Bool
  | .wake _ | .cycle | .deepExit | .retry => true
  | .releaseVdrv | .entry _ => false

/-- A request is at its end, acknowledged or taken as such (R412, R414). An exit from DEEP SLEEP whose voltage came by a retry, which enables
no reference, has it enabled now (Table 14.5 step 4, R417; log entry 89). -/
def requestDone (r : PrqReq) (s : State) : State :=
  let s := { s with prq := { s.prq with req := none, vcore := selOf r.word, vdrv := enOf r.word,
                                                bor := s.prq.bor.map (fun _ => selOf r.word) } }
  let cyc := s.seq.phase == .before && enOf r.word
  let s := if cyc then { s with seq := { s.seq with acked := true } } else s
  match r.why with
  | .wake _ => if s.power.trans == .exitSleep && (s.clk.absent || s.clk.onRef) then endTransition s else prqNext s
  | .cycle => tryPark (prqNext s)
  | .releaseVdrv => tryPark (takeMgmt (prqNext s))
  | .entry p => request (.entry p) { s with power := { s.power with trans := .entryCommit p } }
  | .deepExit => { s with power := { s.power with trans := .deepReload }, mem := { s.mem with asleep := false },
                          clk := { s.clk with refOn := true } }
  | .retry => if s.power.trans == .exitSleep then endTransition s else tryPark (takeMgmt (prqNext s))

/-- A request is acknowledged; the first attempt that is ends a wake failure (R418). -/
def acknowledge (r : PrqReq) (s : State) : State := requestDone r (when r.why.attempt recover s)

/-- An upward request without answer or refused fails the wake; a downward one is logged as silent and taken as acknowledged
(R413, R414). -/
def requestFails (r : PrqReq) (reason : Byte) (s : State) : State :=
  if s.prq.upward r.word then wakeFails (s.cameFrom r.why) reason s
  else requestDone r (raiseFlag flagWakeFail 0x0203 (arg ((selOf r.word).toNat * 4096)) s)

/-- PRQ_POLL: a poll is read (R412). -/
def execPrqPoll (status : Byte) (s : State) : Host.Outcome State Fault Refusal :=
  .next (match s.prq.req with
    | none => s
    | some r =>
      match pollOf r.word status with
      | .ack => acknowledge r s
      | .refused => requestFails r 0x31 s
      | .none => s)

/-- PRQ_ANSWER_TIMEOUT: the request is repeated once under the next tag; then it has failed (R413). -/
def execPrqAnswerTimeout (s : State) : Host.Outcome State Fault Refusal :=
  .next (match s.prq.req with
    | none => s
    | some r => if r.second then requestFails r 0x30 s else transmit r.why true (selOf r.word) (enOf r.word) s)

/-! ## Commands -/

/-- VOTE_RAISED: a client raises its vote to RUN or IDLE (R396); in SLEEP the wake follows (R17). -/
def execVoteRaised (c : Client) (run : Bool) (s : State) : Host.Outcome State Fault Refusal :=
  .next (let v : BitVec 2 := if run then 0 else 1
    if v.toNat < (s.power.vote c).toNat then voteFor c v s else s)

/-- The idle timer runs in a device that its votes hold in RUN or IDLE. -/
def State.timerRuns (s : State) : Bool := s.power.idleTimer && s.power.trans == .none && s.powerManaged && s.awake

/-- IDLE_TIMER_EXPIRY: entry to the target in force (R396). During a power-fail warning the device stays in RUN (Table 12.6 step 4). -/
def execIdleTimerExpiry (s : State) : Host.Outcome State Fault Refusal :=
  .next (if s.timerRuns && !s.seq.pfStop then
    let t := s.power.target
    let s := { s with power := { s.power with idleTimer := false } }
    if t = 1 then { s with power := { s.power with state := .idle } }
    else if t = 2 then entryRequest .sleep s
    else s
  else s)

/-- A held wake source that OFF takes at the end of its entry. -/
def State.offSource (s : State) : Bool :=
  s.power.heldWake || s.power.heldMatcher || (s.bkd.time.alarmFlag && !s.bkd.ledger.basalt)

/-- LOSS_WINDOW_END: at E + 4 the entry is complete; the backup domain takes the present EVENT level as its reference (R406), and the latest
STATE target and a pending WAKE are evaluated (R408). -/
def execLossWindowEnd (eventHigh : Bool) (s : State) (vbat27 : Bool := true) : Host.Outcome State Fault Refusal :=
  .next (match s.power.trans with
    | .lossWindow p =>
      let s := seeVbat vbat27 s
      let s := { s with power := { s.power with state := p, trans := .none }, bkd := { s.bkd with eventLevel := eventHigh } }
      let s := match s.power.latchedState with
        | some n => applyTarget n { s with power := { s.power with latchedState := none } }
        | none => s
      let s := wakeUnparks s
      if p == .off && s.offSource then offWake { s with power := { s.power with parked := none } } else s
    | _ => s)

/-- A wake source of SLEEP stands, or a vote for RUN or IDLE (Table 14.7, R17). -/
def State.sleepSource (s : State) : Bool :=
  s.power.heldTick || s.power.heldMgmt.isSome || s.power.heldWake || s.power.heldMatcher || s.bkd.time.alarmFlag || s.bkd.eventLatch ||
  decide (s.power.target < 2) || s.power.parked.isSome

/-- The held tick begins a cycle: not during a back-off, a park or a power-fail warning (R243, R398, Table 12.6). -/
def State.wakesForTick (s : State) : Bool :=
  s.power.heldTick && s.power.fail.isNone && s.power.parked.isNone && !s.seq.pfStop && s.seq.phase == .none

/-- A direct test that an entry to SLEEP cut off ends with NOREF when the core runs again, on the RC (Table 7.13). -/
def dropTest (s : State) : State := when s.tiu.testing (endTest 5 0) s

/-- MANAGEMENT_TICK: the tick's work is done at once in RUN and IDLE; in SLEEP or during a transition the tick is a held wake request
(Table 14.7). Until the cycle under way has its snapshot and VDRV is off the tick waits too, with the management core's vote for RUN, and SEQ
releases VDRV (R497, Table 8.2 step 13). -/
def execManagementTick (r : Sensors) (s : State) : Host.Outcome State Fault Refusal :=
  .next (if !s.hmc.on || !s.cycling || !s.tickDue || s.power.state == .deep || s.power.state == .off then s
  else
    let t := { s with power := { s.power with heldMgmt := some r } }
    if !(s.awake && s.power.trans == .none) then t
    else if s.sensorsReady then workTick r s
    else
      let t := voteFor .hmc 0 t
      when (s.seq.phase == .none) releaseVdrv t)

/-- WAKE_FROM_SLEEP: the core starts on the RC, sends its request and enables the reference (R17, R401); during a back-off the source
starts an extra attempt, which asks for the voltage only (R418). -/
def execWakeFromSleep (s : State) : Host.Outcome State Fault Refusal :=
  .next (if s.power.state == .sleep && s.power.trans == .none && s.sleepSource then
    let tick := s.wakesForTick
    let fails := s.power.fail.isSome
    let s := { s with
      clk := { s.clk with core := true, onRef := false, declared := false, refOn := !fails },
      power := { s.power with state := .run, trans := .exitSleep, heldTick := false, heldWake := false, heldMatcher := false,
                              serving := s.power.servesHit } }
    when tick takeTick (dropTest (afterWake (send (if fails then .retry else .wake tick) 2 tick s)))
  else s)

/-- WAKE_RETRY_TIMER: the back-off delay ends, and a voltage-only retry is sent (R417). -/
def execWakeRetryTimer (s : State) : Host.Outcome State Fault Refusal :=
  .next (match s.power.fail with
    | none => s
    | some f =>
      if s.power.trans != .none || s.prq.req.isSome then s
      else
        let s := { s with power := { s.power with fail := some { f with attempt := f.attempt + 1 } } }
        match s.power.state with
        | .sleep =>
          dropTest (afterWake (send .retry 2 false
            { s with clk := { s.clk with core := true, onRef := false, declared := false, refOn := false },
                     power := { s.power with state := .run, trans := .exitSleep } }))
        | .deep => { s with power := { s.power with trans := .deepStrobe } }
        | .run => send .retry 2 false s
        | .idle => send .retry 2 false s
        | .off => s)

/-- The source named stands (Table 14.7). -/
def State.deepSource (s : State) : WakeSource → Bool
  | .wakePin => s.power.heldWake
  | .matcher => s.power.heldMatcher
  | .alarm => s.bkd.time.alarmFlag
  | .event => s.bkd.eventLatch

/-- A STATE request latched during the entry leaves the device with another state to go to (Table 14.8). -/
def State.leavesDeep (s : State) : Bool := s.power.parked != some .deep

/-- DEEP_SLEEP_WAKE_STROBE: a source taken by the backup domain begins the exit (Table 14.5 step 1); WAKE has cleared the park. -/
def execDeepSleepWakeStrobe (w : DeepWake) (s : State) : Host.Outcome State Fault Refusal :=
  .next (if s.power.state == .deep && s.power.trans == .none && (s.deepSource w.source || s.leavesDeep) then
    keepBanks w.banksHeld { s with
      power := { s.power with trans := .deepStrobe, serving := w.source == .matcher,
                              heldWake := s.power.heldWake && w.source != .wakePin,
                              heldMatcher := s.power.heldMatcher && w.source != .matcher } }
  else s)

/-- VCORE_STROBE_TIMEOUT: after the strobe and one repeat VCORE has not settled: the wake fails, and the device is back in DEEP SLEEP
through another entry (R417). The core, without its supply, can send no request, so that the entry begins at its edge E (DEDUCED, log
entry 76). -/
def execVcoreStrobeTimeout (s : State) : Host.Outcome State Fault Refusal :=
  .next (match s.power.trans with
    | .deepStrobe =>
      let f := s.power.fail.getD ⟨0, .deep, s.now, 0x30⟩
      let s := editLedger (fun l => { l with stepFailed := 4, failReason := 0x30 }) s
      let s := setFault (raiseFlag flagWakeFail 0x0201 (arg (0x30 * 2 ^ 24 + f.attempt % 256)) s)
      enterEdge .deep { s with power := { s.power with fail := some f } }
    | _ => s)

/-- The frames on which the matcher hits: those to the device's own address, and a broadcast STATE; no other broadcast (R486). -/
def State.matches (s : State) (f : HeardFrame) : Bool :=
  if f.dest = addrBroadcast then f.type == typeState else f.dest == s.lnk.address

/-- MATCHER_HIT: what the matcher hits on wakes a device in SLEEP or deeper; the frame itself is not served (R405, R407, R486). -/
def execMatcherHit (s : State) (f : HeardFrame := .broadcastState) (vbat27 : Bool := true) : Host.Outcome State Fault Refusal :=
  .next (if s.holdsWake && s.linkSupply && s.bkd.alive && s.matches f then
    let s := seeVbat vbat27 s
    offWake { s with power := { s.power with heldMatcher := true } }
  else s)

/-- PULSE_HIGH_END: the pad goes low for at least 5 ms (R358). -/
def execPulseHighEnd (padB : Bool) (s : State) : Host.Outcome State Fault Refusal :=
  .next (let p := s.ee.pad padB
    if p.phase = .high then eeVote { s with ee := s.ee.setPad padB { p with phase := .low } } else s)

/-- PARKED_SERVICE_TIMEOUT: 2 s without a frame for a parked member that a hit woke: park entry again (R486). -/
def execParkedServiceTimeout (s : State) : Host.Outcome State Fault Refusal :=
  .next (if s.power.serving then tryPark { s with power := { s.power with serving := false } } else s)

/-- PULSE_LOW_END: the next pending pulse starts when it fits; otherwise the pad's last pulse is over (R358), and a park entry that waited for
its 10 ms goes on (R398). -/
def execPulseLowEnd (padB : Bool) (s : State) : Host.Outcome State Fault Refusal :=
  .next (let p := s.ee.pad padB
    if p.phase = .low then tryPark (eeVote (startPulse padB { s with ee := s.ee.setPad padB { p with phase := .idle } })) else s)

end Sys2Proof.Machine
end

