-- ==== Sys2Proof/Machine/Straps.lean ====
section
/-!
DEFINITION. Straps and resistor codes (chapter 03): what S02 and S03 read, what Table 3.8 and R160 make of unreadable pads, the
strap copy, and the address of R88.
-/
namespace Sys2Proof.Machine

/-! ## Reading -/

/-- A digital pad's eight samples: the level they agree on, none when they disagree (R72). -/
def padLevel (xs : List Bool) : Option Bool :=
  match xs with
  | [] => none
  | x :: rest => if rest.all (· == x) then some x else none

/-- count_int is in the range of R77. -/
def countOk (n : Nat) : Bool := within 450000 3500000 n

/-- One read of a CFG pad against count_int (Table 3.2, R78). -/
def readCode (ci c : Nat) : Option (BitVec 3) :=
  let w := fun lo hi => decide (lo * ci ≤ c * 10000) && decide (c * 10000 ≤ hi * ci)
  if 100 * ci ≤ c then some 7
  else if c * 10000 < 100 * ci then some 0
  else if w 900 1100 then some 1
  else if w 2970 3630 then some 2
  else if w 9000 11000 then some 3
  else if w 29700 36300 then some 4
  else if w 90000 110000 then some 5
  else if w 297000 363000 then some 6
  else none

/-- The code two reads agree on, else the code that two of three agree on (R81). -/
def agree (r1 r2 r3 : Option (BitVec 3)) : Option (BitVec 3) :=
  if r1.isSome && r1 == r2 then r1
  else if r1.isSome && r1 == r3 then r1
  else if r2.isSome && r2 == r3 then r2
  else none

/-- Reserved codes of CFG_A and CFG_B count as unreadable (R89). -/
def notReserved (pad : Nat) (c : Option (BitVec 3)) : Option (BitVec 3) :=
  match c with
  | none => none
  | some x =>
    if pad = 0 && within 3 6 x.toNat then none
    else if pad = 1 && within 5 6 x.toNat then none
    else some x

/-- The code that one read of a CFG pad gives; none can be read against a count_int out of range (R77). -/
def padCode (ci pad c : Nat) : Option (BitVec 3) := if countOk ci then notReserved pad (readCode ci c) else none

/-- The pad's first two reads call for a third: their codes differ, or either is unreadable (R81). -/
def thirdRead (ci pad : Nat) (reads : Nat × Nat × Nat) : Bool :=
  (padCode ci pad reads.1).isNone || padCode ci pad reads.1 != padCode ci pad reads.2.1

/-- The code of a CFG pad, none while unreadable. -/
def cfgCode (ci pad : Nat) (reads : Nat × Nat × Nat) : Option (BitVec 3) :=
  if thirdRead ci pad reads then agree (padCode ci pad reads.1) (padCode ci pad reads.2.1) (padCode ci pad reads.2.2)
  else padCode ci pad reads.1

/-- The codes of the six CFG pads. -/
def cfgCodes (i : StartIn) : List (Option (BitVec 3)) :=
  (List.range 6).map (fun k => cfgCode i.countInt k (i.cfg.getD k (0, 0, 0)))

/-- The resistors that S03 reads (R75). -/
inductive StrapRead where
  | internal | tsref
  | cfg (n : Fin 6)
deriving DecidableEq, Repr

/-- The reads of S03 in their order: the internal resistor, TSREF, CFG_A to CFG_F twice, and the third reads that are called for (R75,
R81). -/
def strapReads (i : StartIn) : List StrapRead :=
  let pads := List.finRange 6
  [.internal, .tsref] ++ pads.map .cfg ++ pads.map .cfg ++
    (pads.filter (fun n => thirdRead i.countInt n.val (i.cfg.getD n.val (0, 0, 0)))).map .cfg

/-- tsref_s03_ohm: the TSREF read as a resistance (R76, R82), to the nearest ohm (DESIGN CHOICE, log entry 74); against a count_int of 0 it
has no value that the spec states, and takes a free one (log entry 8). -/
def tsrefOhms (i : StartIn) : Nat :=
  if i.countInt = 0 then Config.tsrefOfZeroCount i.countTsref else (roundDiv (i.countTsref * 10000) i.countInt).toNat

/-! ## S02 (R72, Table 3.8) -/

/-- What S02 comes to. -/
inductive StrapResult where
  /-- STRAP_TEST at VIO: the factory test state (R5). -/
  | factory
  | pass (s : Straps)
  | fail (reason : Byte) (s : Straps)
deriving DecidableEq, Repr

/-- The three digital pads: an unreadable level is replaced by the copy's where `subst` allows it; the reason of the first pad that
stays unreadable. Such a pad counts as GND: R93 says so of STRAP_TEST; for PULSE_A and PULSE_B, which matter only where Basalt mode is
entered all the same (R160), it is a DESIGN CHOICE, and they are reported as not substituted (log entry 73). -/
def digitalStraps (i : StartIn) (subst : Bool) (copy : Option StrapCopy) (s : Straps) : StrapResult :=
  let a := padLevel i.pulseA
  let b := padLevel i.pulseB
  let t := padLevel i.strapTest
  if t = some true then .factory
  else
    let c := if subst then copy else none
    let lv := fun (r : Option Bool) (k : Idx3) => r.getD ((c.map (fun x => x.levels.get k)).getD false)
    let sub := fun (r : Option Bool) => r.isNone && c.isSome
    let s := { s with levels := ⟨lv a .one, lv b .two, lv t .three⟩, levelSub := ⟨sub a, sub b, sub t⟩ }
    if c.isSome then .pass s
    else if a.isNone then .fail 0x20 s
    else if b.isNone then .fail 0x21 s
    else if t.isNone then .fail 0x22 s
    else .pass s

/-! ## S03 (R75 to R82, Table 3.8) -/

/-- Each pad's code in use: CFG_D, CFG_E and CFG_F handle an unreadable read by their own rows, CFG_A to CFG_C by the copy where
`subst` allows it. -/
def codeInUse (copy : Option StrapCopy) (k : Nat) (r : Option (BitVec 3)) : Option (BitVec 3) :=
  match r with
  | some x => some x
  | none => if 3 ≤ k then some 7 else copy.map (fun x => x.codes.getD k 7)

/-- S03: the codes in use, or the reason of the first pad that stays unreadable. -/
def resistorCodes (i : StartIn) (subst : Bool) (copy : Option StrapCopy) (s : Straps) : StrapResult :=
  let rs := cfgCodes i
  let c := if subst then copy else none
  let s := { s with codes := (List.zip (List.range 6) rs).map (fun x => codeInUse c x.1 x.2),
                    codeSub := (List.zip (List.range 6) rs).map (fun x => decide (x.1 < 3) && x.2.isNone && c.isSome),
                    codeUnread := (List.zip (List.range 6) rs).map (fun x => decide (3 ≤ x.1) && x.2.isNone),
                    tsrefOhm := tsrefOhms i }
  if c.isSome then .pass s
  else if !countOk i.countInt then .fail 0x26 s
  else if (rs.getD 0 none).isNone then .fail 0x23 s
  else if (rs.getD 1 none).isNone then .fail 0x24 s
  else if (rs.getD 2 none).isNone then .fail 0x25 s
  else .pass s

/-- R160: an unreadable CFG_A with no copy takes its code from the line. -/
def roleFromLine (i : StartIn) (s : Straps) : Straps :=
  if (s.codes.getD 0 none).isSome then s
  else { s with codes := s.codes.set 0 (some (if 1200 ≤ i.lu100 then 0 else if 1200 ≤ i.ldGnd100 then 2 else 7)),
                codeSub := s.codeSub.set 0 true }

/-! ## Logging and the copy (R92, R95) -/

/-- The three bytes of the copy's values: PULSE_A, PULSE_B and STRAP_TEST from the top bit, the six codes, and three zeros
(the order is log entry 75). -/
def copyBytes (levels : Three Bool) (codes : List (BitVec 3)) : List Byte :=
  let c := fun k => codes.getD k 0
  be 3 (BitVec.ofBool levels.p1 ++ BitVec.ofBool levels.p2 ++ BitVec.ofBool levels.p3 ++ c 0 ++ c 1 ++ c 2 ++ c 3 ++ c 4 ++ c 5 ++
    (0 : BitVec 3))

/-- The values of a start that the copy takes, with their CRC-8: levels and codes in use, an unreadable CFG_D to CFG_F as 7 (R92). -/
def Straps.copy (s : Straps) : StrapCopy :=
  let codes := s.codes.map (fun c => c.getD 7)
  { levels := s.levels, codes := codes, crc := crc8 (copyBytes s.levels codes) }

/-- The copy's CRC-8 is that of its values (R92). -/
def StrapCopy.sound (c : StrapCopy) : Bool := c.crc == crc8 (copyBytes c.levels c.codes)

/-- A level as a logged value. -/
def levelVal (b : Bool) : Nat := b.toNat

/-- One substituted pad (R95, R520). -/
def logSub (pad value : Nat) (s : State) : State :=
  setFault (raiseFlag flagStrap 0x0A05 (arg (pad * 2 ^ 24 + value)) s)

/-- One changed pad (R95). -/
def logChange (pad old new : Nat) (s : State) : State :=
  let s := raiseFlag flagStrap 0x0A06 (arg (pad * 2 ^ 24 + old * 256 + new)) s
  { s with straps := { s.straps with changed := true } }

/-- One digital pad: what stands in for it, or a readable level that differs from the valid copy. R95 speaks of a code; a changed level is
logged too, since Table 17.3 lists the three digital pads for event 0x0A06 (DEDUCED, log entry 97). -/
def logLevel (k : Idx3) (read : Option Bool) (s : State) : State :=
  if s.straps.levelSub.get k then logSub (k.num - 1) (levelVal (s.straps.levels.get k)) s
  else
    match read, s.bkd.strapCopy with
    | some v, some c =>
      let old := c.levels.get k
      if old != v then logChange (k.num - 1) (levelVal old) (levelVal v) s else s
    | _, _ => s

/-- The digital pads' substitutions and changes. -/
def logLevels (i : StartIn) (s : State) : State :=
  logLevel .three (padLevel i.strapTest) (logLevel .two (padLevel i.pulseB) (logLevel .one (padLevel i.pulseA) s))

/-- The CFG pads' substitutions and changes. -/
def logCodes (s : State) : State :=
  (List.range 6).foldl (fun t k =>
    let v := (s.straps.codes.getD k none).getD 7
    if s.straps.codeSub.getD k false then logSub (3 + k) v.toNat t
    else if s.straps.codeUnread.getD k false || (s.straps.codes.getD k none).isNone then t
    else match s.bkd.strapCopy with
      | some c =>
        let old := c.codes.getD k 7
        if old != v then logChange (3 + k) old.toNat v.toNat t else t
      | none => t) s

/-! ## The address (R88, R459) -/

/-- The address that the straps and the BKD give. -/
def strapAddress (s : State) : BitVec 10 :=
  let un := fun k => s.straps.codeUnread.getD k false || (s.code k).isNone
  if un 4 || un 5 then 1022
  else
    let v := 8 * ((s.code 4).getD 7).toNat + ((s.code 5).getD 7).toNat
    if v ≤ 62 then BitVec.ofNat 10 (v + 1) else s.bkd.address.getD 1022

/-- The address held from a start: a head in normal operation holds 0; in Basalt mode and in a member the straps decide. -/
def startAddress (s : State) : BitVec 10 := if s.role = .head && !s.inBasalt then 0 else strapAddress s

/-- Table 3.5: the Watal link rate in kbit/s; without a code that of code 7 (log entry 73). -/
def rateOf : Option (BitVec 3) → Nat
  | some 0 => 1000
  | some 2 => 1000
  | some 4 => 1000
  | some 6 => 1000
  | _ => 250

/-- The link rate in use, none for a stand-alone device, which ignores it (R85). -/
def State.linkRate (s : State) : Option Nat := if s.role = .standAlone then none else some (rateOf (s.code 2))

/-- A half-bit of this length in ns is accepted: 0.70 to 1.30 times the nominal half-bit (R433, R436). -/
def halfBitOk (rate ns : Nat) : Bool := decide (700000 ≤ 2 * ns * rate) && decide (2 * ns * rate ≤ 1300000)

/-- Bank policy (Tables 3.5, 3.6); without a code that of code 7 (log entry 73). -/
def policyOf : Option (BitVec 3) → Policy
  | some 1 => .newerFirst
  | some 2 => .newerFirst
  | some 3 => .aOnly
  | some 4 => .aOnly
  | some 5 => .bFirst
  | some 6 => .bFirst
  | _ => .aFirst

end Sys2Proof.Machine
end

