-- ==== Sys2Proof/Machine/Start.lean ====
section
/-!
DEFINITION. Starts (chapter 05): the start ledger's bookkeeping, the steps S00 to S13, success and failure, and Basalt mode. The steps
that end by themselves run one after the other within the command that begins the start; a start that has to wait (for the
reference, a block, a cycle, the link) stops in the step's phase and goes on with the command that ends the wait.
-/
namespace Sys2Proof.Machine

/-! ## The ledger and the steps (R145, R151, R153) -/

/-- The steps for which Table 5.5 gives an alternative. -/
def hasAlternative (n : Nat) : Bool := [1, 2, 3, 4, 5, 8, 9, 10, 11, 13].contains n

/-- The step runs its alternative. -/
def State.alternative (s : State) (n : Nat) : Bool := s.bkd.ledger.altMask.getLsbD n

/-- A step begins: step_reached, and the alternative logged. -/
def beginStep (n : Nat) (s : State) : State :=
  let s := writeLedger (fun l => { l with stepReached := BitVec.ofNat 4 n }) { s with start := { s.start with phase := .step n } }
  when (s.alternative n) (raise 0x0A03 (arg n)) s

/-- A step passed in degraded form (R147). -/
def degrade (n : Nat) (s : State) : State :=
  { s with start := { s.start with degraded := s.start.degraded ||| (1 <<< n) } }

/-- The ledger's changes at a failure (R153); the third one latches Basalt mode (R157). -/
def Ledger.fail (n : Nat) (reason : Byte) (l : Ledger) : Ledger :=
  let c : BitVec 2 := if l.failCount = 3 then 3 else l.failCount + 1
  { l with stepFailed := BitVec.ofNat 4 n, failReason := reason,
           altMask := if hasAlternative n then l.altMask ||| (1 <<< n) else l.altMask,
           failCount := c, startActive := false, basalt := l.basalt || c == 3 }

/-- A failure recorded, logged, and shown by FAULT_N. -/
def recordFailure (n : Nat) (reason : Byte) (s : State) : State :=
  let s := writeLedger (Ledger.fail n reason) s
  setFault (raise 0x0A01 (arg (n * 2 ^ 24 + reason.toNat * 2 ^ 16 + s.bkd.ledger.failCount.toNat)) s)

/-- In a Basalt start a failure is recorded and nothing else changes (R160). -/
def recordOnly (n : Nat) (reason : Byte) (s : State) : State :=
  let s := writeLedger (fun l => { l with stepFailed := BitVec.ofNat 4 n, failReason := reason }) s
  setFault (raise 0x0A01 (arg (n * 2 ^ 24 + reason.toNat * 2 ^ 16 + s.bkd.ledger.failCount.toNat)) s)

/-! ## Events of the start (R34, R156) -/

/-- The sequence counter set from the newest log record after a loss of the backup domain (R34). -/
def settleCounter (s : State) : State :=
  let s := { s with bkd := { s.bkd with lost := false } }
  if s.eva.withhold then
    let e := s.eva
    match (if s.mem.usable then s.mem.newestLog else none) with
    | some (_, r) =>
      let n := BitVec.ofNat 32 (fieldN r 0 4)
      { s with eva := { e with next := n + 1, last := n, withhold := false } }
    | none => { s with eva := { e with next := 0, withhold := false } }
  else s

/-- Held events with numbers: those withheld take the next ones in order. -/
def numberHeld : List (Option (BitVec 32) × BitVec 32 × Event) → BitVec 32 → List (BitVec 32 × List Record) × BitVec 32
  | [], n => ([], n)
  | (some q, t, e) :: xs, n =>
    let r := numberHeld xs n
    ((q, recordsOf q t e) :: r.1, r.2)
  | (none, t, e) :: xs, n =>
    let r := numberHeld xs (n + 1)
    ((n, recordsOf n t e) :: r.1, r.2)

/-- The held events, the excess as one event with its count, and the arbiter without them. -/
def Eva.takeHeld (v : Eva) (dev : BitVec 32) : List (BitVec 32 × List Record) × Eva :=
  let xs := if v.excess = 0 then v.held else v.held ++ [(none, dev, ⟨0x0A0B, arg v.excess⟩)]
  let r := numberHeld xs v.next
  (r.1, { v with held := [], excess := 0, next := r.2, last := if r.2 = v.next then v.last else r.2 - 1 })

/-- The start controller writes the held events to the log itself; without a memory they are lost (R156). The queue that the Flint banks
still hold goes first, so that event_seq never steps back in the log (R539, log entry 40). -/
def writeHeld (s : State) : State :=
  let s := settleCounter (discover s)
  let h := s.eva.takeHeld s.now
  let s := { s with eva := h.2 }
  if s.mem.usable then
    let r := writeRecords (max 1 s.mem.logSize) (s.eva.queue ++ h.1.flatMap Prod.snd) (s.mem, s.mem.findLog) []
    { s with mem := r.1.1, log := r.1.2, eva := { s.eva with queue := [] } }
  else s

/-- The management core sets up the log at the end of S08: it finds the newest record, sets a withheld counter, and the held events
go to the queue (R156, R539). -/
def setUpLog (s : State) : State :=
  let s := settleCounter { s with log := if s.mem.usable then s.mem.findLog else s.log }
  let h := s.eva.takeHeld s.now
  logWhenHalf { s with eva := h.1.foldl (fun v x => v.enqueue x.1 x.2) { h.2 with logReady := true } }

/-! ## Basalt mode (R157 to R161) -/

/-- A head begins to raise its line: its bypass opens, so that the injector may close (R425, R428, log entry 77). -/
def Phy.raiseLine (p : Phy) : Phy := { p with bypassClosed := false, injector := true, retrying := false }

/-- The link is wanted: a member waits for its line, once a removal under way has ended (R443); a head raises its line. -/
def Phy.wanted (p : Phy) (r : Role) : Phy :=
  match r with
  | .standAlone => p
  | .member => if p.ins = .out then { p with ins := .waitLine } else p
  | .head => p.raiseLine

/-- The blocks that Basalt mode does not run: the device stops measuring, the management core stands still, and no request to the
regulator is open (R158, R159). -/
def quiesce (s : State) : State :=
  { s with
    prq := { s.prq with req := none }, clk := { s.clk with absent := false },
    hmc := s.hmc.cleared, afe := .const AfePath.reset, seq := Seq.reset, ag := Ag.reset, temp := Temp.reset, img := none,
    mem := s.closedMem,
    fe := { paths := .const FePath.reset, pipes := s.fe.pipes.map FePipe.cleared },
    tiu := { s.tiu with paths := .const TiuPath.reset, loan := none, test := .armed,
                        slots := s.tiu.slots.map (fun x => { x with use := .free }) },
    bkd := { s.bkd with shadow := none, readers := 0, strobe := false,
                        commits := s.bkd.commits.filter Commit.staged },
    eva := { s.eva with logReady := false },
    power := { s.power.cleared with standing := s.linkSupply } }

/-- Entry to Basalt mode by role: OFF for a stand-alone device, which prepares nothing, and the link for a member or head (R159, Table
5.7, R538). The held events of a start that failed are written in any role (R156). start_active
ends at 0 whichever way the device came here (DEDUCED, log entry 103). -/
def enterBasalt (s : State) : State :=
  let failed := !s.bkd.ledger.startActive
  let s := writeLedger (fun l => { l with startActive := false }) { s with start := { s.start with phase := .basalt } }
  let s := setFault (raise 0x0A04 (arg 1) s)
  let s := quiesce (if failed || s.role != .standAlone then writeHeld s else s)
  if s.role = .standAlone then
    let s := basaltSnapshot s
    request (.entry .off) { s with power := { s.power with trans := .entryCommit .off }, mem := s.mem.sleepFor .off }
  else
    basaltSnapshot { s with clk := { s.clk with refOn := true },
                            lnk := { Lnk.reset with on := true, address := startAddress s },
                            phy := s.phy.wanted s.role }

/-! ## Failure (R153, R156) -/

/-- A start fails in a step: the ledger, the held events, and a restart after its delay; the third time Basalt mode. -/
def startFails (n : Nat) (reason : Byte) (s : State) : State :=
  let s := recordFailure n reason s
  if s.bkd.ledger.basalt then enterBasalt s
  else
    let s := resetCore 6 (if s.eva.logReady then s else writeHeld s)
    { s with start := { s.start with phase := .delay } }

/-- A failure of S01 to S03: a Basalt start, or one that the third failure makes so, goes on with the values of R160; otherwise `keep`
takes what the step has read before the restart (R82, R95). -/
def earlyFails (n : Nat) (reason : Byte) (keep goOn : State → State) (s : State) : State :=
  if s.bkd.ledger.basalt then goOn (recordOnly n reason s)
  else
    let t := recordFailure n reason s
    if t.bkd.ledger.basalt then goOn t else startFails n reason (keep s)

/-! ## Success (R147, R154) -/

/-- The strap copy written when the start reaches S12, or S13 with the link in use (R92). -/
def writeCopy (s : State) : State := request (.strapCopy s.straps.copy) s

/-- The start has succeeded. -/
def startSucceeds (s : State) : State :=
  let d := s.start.degraded
  let s := writeLedger (fun l => { l with failCount := 0, stepFailed := 0xF, failReason := 0, startActive := false,
                                          degradedMask := d }) { s with start := { s.start with phase := .running, owed := false } }
  let s := raise 0x0A02 (arg (s.bkd.ledger.resetCause.toNat * 2 ^ 24 + d.toNat)) s
  when (d != 0 || s.start.secondBank || s.start.afterFail) (occur flagStart) s

/-! ## S13 and S12 -/

/-- S13: a member asks for its insertion, a head raises the line. -/
def stepS13 (s : State) : State :=
  let s := writeCopy (beginStep 13 s)
  { s with phy := s.phy.wanted s.role }

/-- S12 passes at the first snapshot: a stand-alone device's start succeeds, a member or head goes on (R147). -/
def passS12 (s : State) : State := if s.role = .standAlone then startSucceeds s else stepS13 s

/-- The path that the one event of a start names: of those in use whose code leaves the stamps short the lowest-numbered one (R191, Table
6.7; DESIGN CHOICE, log entry 92). -/
def State.limitedPath (s : State) : Option Idx3 :=
  (Idx3.all.filter (fun p => s.pathUsed p && decide (s.conf.nUsed p < s.conf.stamps))).head?

/-- Stamps that are short are logged once per start, with the status bit "stamps limited" (R191). -/
def logStamps (s : State) : State :=
  match s.limitedPath with
  | some p => raise 0x0407 (arg (p.num * 256 + s.conf.nUsed p)) { s with start := { s.start with limited := true } }
  | none => s

/-- S12 begins: the cycle timer runs from 0 (R240), and the votes take over. -/
def stepS12 (s : State) : State :=
  let s := logStamps (beginStep 12 s)
  let s := when (s.role == .standAlone) writeCopy s
  reach { s with bkd := { s.bkd with timer := 0, timerOn := true }, seq := { s.seq with nominal := 0, dither := 0 } }

/-! ## S11 (R136, R353, R370) -/

/-- The gain code at a start (R179). -/
def State.startGain (s : State) : BitVec 3 := if s.autoGain then 4 else BitVec.ofNat 3 (s.conf.fixedGainDb / 6)

/-- The AFE at a start: gain, thresholds at floor_code, locks unset (R179, R181, R188). A lock that a reset or DEEP SLEEP unsets logs no
event 0x0406 (DESIGN CHOICE, log entry 100). -/
def startAfe (s : State) : State :=
  { s with afe := s.afe.imap (fun p _ =>
      if s.pathUsed p then
        { AfePath.reset with gain := s.startGain, nextGain := s.startGain, nUsed := s.conf.nUsed p,
                             dirs := .const { AfeDir.reset with thr := BitVec.ofNat 8 s.conf.floorCode } }
      else AfePath.reset) }

/-- device_s advanced past the newest save record after a loss of the backup domain (R370). -/
def adjustSeconds (s : State) : State :=
  if s.bkd.devAdjust then
    let k := { s.bkd with devAdjust := false }
    match newestSave s.mem.validSaves with
    | some (_, r) =>
      let t := fieldN r 0x0A 4
      { s with bkd := if s.now.toNat < t then { k with time := { k.time with deviceS := k.time.deviceS + BitVec.ofNat 32 (t + 1) } } else k }
    | none => { s with bkd := k }
  else s

/-- The blocks released at S11: AFE, SEQ, FE, EE, AG and LNK, each from its reset state; a stand-alone device has no link, a
power-fail warning that stands still stops the cycles (Table 12.6), and a reference regained while S11 waited still wants its full
calibration before the first pair (R224). -/
def releaseBlocks (s : State) : State :=
  let s := startFlow (startAfe { s with seq := { Seq.reset with pfStop := s.phy.powerFail, preFull := s.seq.preFull }, ee := s.ee.start,
                                         ag := { Ag.reset with outOfService := s.start.agOut },
                                         tiu := { s.tiu with paths := .const TiuPath.reset },
                                         head := Head.reset,
                                         lnk := { Lnk.reset with on := s.linkSupply, address := startAddress s },
                                         power := { s.power with standing := s.linkSupply } })
  startSensors s

/-- The rest of S11 once every block is out of reset; a conversion set is due when the step passes (R322, R328). -/
def finishS11 (s : State) : State :=
  let s := adjustSeconds (releaseBlocks s)
  let s := when s.mem.usable (fun t => { t with save := t.mem.findSaves t.save }) s
  match settleRegisters s with
  | none => startFails 11 0x71 s
  | some t => stepS12 (alarmSave (initialSnapshot (setDue t)))

/-- S11 with a block that stays in reset (R135, R507): AG and a stand-alone device's LNK pass as degraded. -/
def s11Timeout (id : Byte) (s : State) : State :=
  if id = 6 then finishS11 (degrade 11 { s with start := { s.start with agOut := true } })
  else if id = 7 && s.role == .standAlone then finishS11 (degrade 11 s)
  else startFails 11 0x70 s

/-! ## S10 to S08 -/

/-- The time limit's reason where Table 5.5 names none (log entry 5). -/
def limitFails (n : Nat) (s : State) : State := startFails n (Config.timeLimitReason n s.free) s.spend

/-- The step does not end by itself in this start. -/
def hangs (i : StartIn) (n : Nat) : Bool := i.hang == some n

/-- S11. -/
def stepS11 (i : StartIn) (s : State) : State :=
  let s := beginStep 11 s
  if hangs i 11 then s else finishS11 s

/-- S10's events: one per slot retired (R229). -/
def logRetired (s : State) : State :=
  (List.range 24).foldl (fun t k =>
    let x := s.tiu.slot k
    when (x.state == 1) (raiseFlag flagSlot 0x0301 (arg (k * 256 + x.cause.toNat))) t) s

/-- The part of a slot's raw calibration that a start's averaging takes: once, or in S10's alternative four times as much (Table 5.5, R221,
log entry 63). -/
def SlotRaw.upTo (avg : Nat) (r : SlotRaw) : SlotRaw :=
  { r with codes1 := r.codes1.take (16 * avg), codes2 := r.codes2.take (16 * avg), inl := r.inl.map (fun xs => xs.take (32 * avg)),
           cross := r.cross.take (8 * avg) }

/-- The full calibration of all 24 slots (R220, R223): the rings, then gain, INL and cross-check. A ring calibration that fails is a vernier
fault as at run time (DESIGN CHOICE, log entry 64). -/
def calibrateStart (i : StartIn) (s : State) : State :=
  let s := ringCalibrate i.ring s
  let p := if s.tiu.vernierBad then none else some s.tiu.rings
  let t := calibrateAll p (i.cal.map (SlotRaw.upTo (if s.alternative 10 then 4 else 1))) s.now s.tiu
  let s := { s with tiu := { t with s10Mask := t.retiredMask, gainAtS := some s.now,
                                    inlAtS := if p.isSome then some s.now else t.inlAtS },
                    hmc := { s.hmc with dieAtCal := s.hmc.die100 } }
  logRetired (writeLedger (fun l => { l with slotFailMask := s.tiu.s10Mask }) s)

/-- S10: deferred while the reference is absent. -/
def stepS10 (i : StartIn) (s : State) : State :=
  let s := beginStep 10 s
  if s.clk.absent then stepS11 i s
  else if hangs i 10 then s
  else
    let s := calibrateStart i s
    if Idx3.all.any s.lacksSlots then startFails 10 0x61 s else stepS11 i s

/-- S09: the vernier self-test; every result must lie within ±50 ps (Table 5.5). -/
def stepS09 (i : StartIn) (s : State) : State :=
  let s := beginStep 9 s
  if hangs i 9 then s
  else
    let r := ringsOf s.clk.onRef i.selfTest.rings s.free
    let ok := r.ok && selfEachOk r i.selfTest.intervals
    let s := { s with free := s.free + 3,
                      tiu := { s.tiu.withRings r with
                        checkPass := ok, vernierBad := false,
                        checkDev := BitVec.ofNat 7 (if r.ok then selfDeviation r i.selfTest.intervals else 127) } }
    if ok then stepS10 i s else startFails 9 0x60 s

/-- The better of two valid banks: the higher image_seq, on a tie bank A (Table 3.6). -/
def betterBank (m : Mem) (fw : Bool) (best : Option Bank) (k : Bank) : Bank :=
  match best with
  | none => k
  | some j =>
    if m.bankSeq fw j < m.bankSeq fw k then k
    else if m.bankSeq fw k < m.bankSeq fw j then j
    else .a

/-- The order in which a policy tries the banks (Table 3.6). -/
def bankOrder : Policy → List Bank
  | .aFirst => [.a, .b]
  | .bFirst => [.b, .a]
  | .aOnly => [.a]
  | .newerFirst => [.a, .b]

/-- The policy in use (Tables 3.5, 3.6). -/
def State.policy (s : State) : Policy := policyOf (s.code 2)

/-- A failed bank check logged (R116). -/
def logBank (fw : Bool) (k : Bank) (r : Byte) (s : State) : State := raise 0x0A0A (arg (bankArg fw k r.toNat)) s

/-- The firmware banks checked in an order: the bank chosen, or the reason of the last one. -/
def chooseFirmware (newer : Bool) : List Bank → Option Bank → Byte → State → Except Byte Bank × State
  | [], some k, _, s => (.ok k, s)
  | [], none, r, s => (.error r, s)
  | k :: ks, best, r, s =>
    match s.checkBank true k with
    | none => if newer then chooseFirmware newer ks (some (betterBank s.mem true best k)) r s else (.ok k, s)
    | some r => chooseFirmware newer ks best r (logBank true k r s)

/-- The order of S08: under its alternative the bank not tried first last time, or both in reverse (Table 5.5). -/
def State.firmwareOrder (s : State) : List Bank :=
  let o := bankOrder s.policy
  if !s.alternative 8 then o
  else
    match s.policy with
    | .aOnly => o
    | .newerFirst => o.reverse
    | .aFirst | .bFirst =>
      let last := s.banks.fwFirst.getD (o.headD .a)
      [last.other, last]

/-- S08: a firmware bank is chosen, loaded and its core released; the log is set up. -/
def stepS08 (i : StartIn) (s : State) : State :=
  let s := beginStep 8 s
  if hangs i 8 then s
  else
    let o := s.firmwareOrder
    let s := { s with banks := { s.banks with fwFirst := o.head? } }
    match chooseFirmware (s.policy == .newerFirst) o none 0 s with
    | (.error r, s) => startFails 8 (0x80 + r) s
    | (.ok k, s) =>
      let second := s.policy != .newerFirst && (bankOrder s.policy).headD .a != k
      let s := useFirmware k { s with start := { s.start with secondBank := s.start.secondBank || second } }
      stepS09 i (setUpLog { s with hmc := { s.hmc with on := true } })

/-! ## S07 and S06 (Table 3.6) -/

/-- The step that checks a configuration bank. -/
def confStep : Bank → Nat
  | .a => 6
  | .b => 7

/-- A configuration bank is put in use, and the start goes on with S08. -/
def bankChosen (i : StartIn) (k : Bank) (s : State) : State :=
  let second := s.policy != .newerFirst && (bankOrder s.policy).headD .a != k
  stepS08 i (useConf k { s with start := { s.start with secondBank := s.start.secondBank || second } })

/-- The banks tried in order from here on, with the valid one found so far and the last failure. -/
def tryBanks (i : StartIn) : List Bank → Option Bank → Nat × Byte → State → State
  | [], none, f, s => startFails f.1 f.2 s
  | [], some k, _, s => bankChosen i k s
  | k :: ks, best, f, s =>
    let s := discover (beginStep (confStep k) s)
    if hangs i (confStep k) then s
    else
      match s.checkBank false k with
      | none =>
        if s.policy = .newerFirst then tryBanks i ks (some (betterBank s.mem false best k)) f s else bankChosen i k s
      | some r => tryBanks i ks best (confStep k, r) (logBank false k r s)

/-- A bank whose check reaches its time limit: it has failed, and the policy goes on (Table 3.6, log entry 5). -/
def bankTimesOut (i : StartIn) (k : Bank) (s : State) : State :=
  let r := Config.timeLimitReason (confStep k) s.free
  let i := { i with hang := none }
  let o := bankOrder s.policy
  let rest := (o.dropWhile (· != k)).drop 1
  let best := if s.policy = .newerFirst && k == .b && (s.checkBank false .a).isNone then some .a else none
  tryBanks i rest best (confStep k, r) (logBank false k r s.spend)

/-- S06 and S07. -/
def stepBanks (i : StartIn) (s : State) : State := tryBanks i (bankOrder s.policy) none (6, 0) s

/-! ## S05 and S04 -/

/-- S05 passes: the core runs on the reference. -/
def passS05 (i : StartIn) (s : State) : State := stepBanks i (toReference { s with clk := { s.clk with declared := true } })

/-- The reason that a check which did not declare the reference leaves (R148, R419). -/
def refReason (c : RefCheck) : Nat := if c.offFrequency then 0x41 else 0x40

/-- S05 without a declaration: the degraded mode "reference absent" (R148). -/
def degradeS05 (i : StartIn) (c : RefCheck) (s : State) : State :=
  let s := writeLedger (fun l => { l with altMask := l.altMask ||| (1 <<< 5) })
    (degrade 5 { s with clk := { s.clk with absent := true } })
  stepBanks i (setFault (raiseFlag flagRefLost 0x0204 (arg (refReason c)) s))

/-- S05: the reference is declared present by R18 or not within the limit. -/
def stepS05 (i : StartIn) (s : State) : State :=
  let s := beginStep 5 { s with clk := { s.clk with refOn := true } }
  if hangs i 5 then s
  else if i.ref.declares then passS05 i s
  else degradeS05 i i.ref s

/-- One attempt of S04 takes a tag. -/
def spendTag (s : State) : State := { s with prq := { s.prq with tag := s.prq.tag + 1 } }

/-- S04: the run voltage is confirmed, with one retry. -/
def stepS04 (i : StartIn) (s : State) : State :=
  let s := beginStep 4 s
  if hangs i 4 then s
  else
    let up := fun (t : State) => { t with prq := { t.prq with vcore := 2, vdrv := false, bor := some 2 } }
    match i.prq1 with
    | .acknowledged => stepS05 i (up (spendTag s))
    | .refused => startFails 4 0x31 (spendTag s)
    | .silent =>
      match i.prq2 with
      | .acknowledged => stepS05 i (up (spendTag (spendTag s)))
      | .refused => startFails 4 0x31 (spendTag (spendTag s))
      | .silent => startFails 4 0x30 (spendTag (spendTag s))

/-! ## S03 to S01 -/

/-- The straps of a result, whatever it is. -/
def StrapResult.straps (d : Straps) : StrapResult → Straps
  | .factory => d
  | .pass s => s
  | .fail _ s => s

/-- What S03 read is kept and logged, passed or not: the TSREF reading, held at 65 535 Ω (R82; DESIGN CHOICE, log entry 74), and the codes'
substitutions and changes (R95). -/
def keepCodes (t : Straps) (s : State) : State :=
  logCodes (raise 0x0A0C (arg (holdAt 65535 t.tsrefOhm)) { s with straps := t })

/-- S03 passed, or taken with the values of R160: Basalt mode, or the regulator. -/
def afterS03 (i : StartIn) (t : Straps) (s : State) : State :=
  let s := keepCodes t s
  if s.bkd.ledger.basalt then enterBasalt s else stepS04 i s

/-- S03 with the values of R160. -/
def fallS03 (i : StartIn) (s : State) : State :=
  afterS03 i (roleFromLine i ((resistorCodes i true s.bkd.strapCopy s.straps).straps s.straps)) s

/-- S03. -/
def stepS03 (i : StartIn) (s : State) : State :=
  let s := beginStep 3 s
  if hangs i 3 then s
  else
    match resistorCodes i (s.alternative 3) s.bkd.strapCopy s.straps with
    | .pass t => afterS03 i t s
    | .factory => s
    | .fail r t => earlyFails 3 r (keepCodes t) (fallS03 i) s

/-- The factory test state of R5: start_active falls, and nothing else is recorded. -/
def enterFactory (s : State) : State :=
  writeLedger (fun l => { l with startActive := false }) { s with start := { s.start with phase := .factory } }

/-- What S02 read is kept and logged, passed or not (R95). -/
def keepLevels (i : StartIn) (t : Straps) (s : State) : State := logLevels i { s with straps := t }

/-- S02 with the values of R160. -/
def fallS02 (i : StartIn) (s : State) : State :=
  stepS03 i (keepLevels i ((digitalStraps i true s.bkd.strapCopy s.straps).straps s.straps) s)

/-- S02. -/
def stepS02 (i : StartIn) (s : State) : State :=
  let s := beginStep 2 s
  if hangs i 2 then s
  else
    match digitalStraps i (s.alternative 2) s.bkd.strapCopy s.straps with
    | .factory => enterFactory s
    | .pass t => stepS03 i (keepLevels i t s)
    | .fail r t => earlyFails 2 r (keepLevels i t) (fallS02 i) s

/-- What at least two of three reads agree on. -/
def majority {α : Type} [DecidableEq α] (a b c : α) : Option α :=
  if a = b || a = c then some a else if b = c then some b else none

/-- Words 0 to 24 of the array as one pass reads them. -/
def fusePass (array flips : List (BitVec 32)) : List (BitVec 32) :=
  (List.range 25).map (fun k => array.getD k 0 ^^^ flips.getD k 0)

/-- The words taken from two passes, or word by word from three (R137). -/
def wordsOf (i : StartIn) (array : List (BitVec 32)) : List (Option (BitVec 32)) :=
  let a := fusePass array i.fuseFlips1
  let b := fusePass array i.fuseFlips2
  if a = b then a.map some
  else (List.zip a (List.zip b (fusePass array i.fuseFlips3))).map (fun x => majority x.1 x.2.1 x.2.2)

/-- The factory_crc of words (Table 5.3). -/
def factoryOk (ws : List (BitVec 32)) : Bool := crc32 ((ws.take 15).flatMap (be 4)) == ws.getD 15 0

/-- The UID (R142). -/
def uidOf (ws : List (BitVec 32)) : BitVec 64 :=
  let w0 := ws.getD 0 0
  let w1 := ws.getD 1 0
  let u : BitVec 64 := (0x3624 : BitVec 16) ++ w0.extractLsb' 8 24 ++ w0.extractLsb' 3 5 ++ w1.extractLsb' 24 8 ++
    w1.extractLsb' 16 8 ++ (0 : BitVec 3)
  u ||| BitVec.ofNat 64 (ones u % 8)

/-- The lock (R143). -/
def lockOf (ws : List (BitVec 32)) : Bool := decide (2 ≤ ones ((ws.getD 24 0).extractLsb' 0 3))

/-- Table 5.4. -/
def claimOf (ws : List (BitVec 32)) : Claim :=
  if lockOf ws then .claimed else if ((ws.drop 16).take 8).all (· == 0) then .unclaimed else .incomplete

/-- The fuse shadows, the UID and the claim state. -/
def loadFuses (ws : List (BitVec 32)) (s : State) : State :=
  { s with fuse := { s.fuse with shadow := ws, uid := uidOf ws, claim := claimOf ws } }

/-- S01 passed, or taken with the values of R160: a word without a majority is 0. -/
def fallS01 (i : StartIn) (s : State) : State := stepS02 i (loadFuses ((wordsOf i s.fuse.words).map (fun w => w.getD 0)) s)

/-- S01. -/
def stepS01 (i : StartIn) (s : State) : State :=
  let s := beginStep 1 s
  if hangs i 1 then s
  else
    let ws := wordsOf i s.fuse.words
    if ws.any Option.isNone then earlyFails 1 0x10 id (fallS01 i) s
    else if !factoryOk (ws.map (fun w => w.getD 0)) then earlyFails 1 0x11 id (fallS01 i) s
    else fallS01 i s

/-! ## S00 (R34, R152) -/

/-- The ledger as S00 reads its words: a ledger_crc that fails resets it and marks the strap copy invalid, as does a copy's own CRC-8
(R92, R145, Table 5.6). slot_s10_mask follows the ledger's mask, also where this start defers S10 (Table 7.11). -/
def checkBackup (i : StartIn) (s : State) : State :=
  let l := s.bkd.ledger
  let read := fun (k : Nat) (w : BitVec 32) => w ^^^ i.ledgerFlips.getD k 0
  match Ledger.ofWords (read 0 l.word0) (read 1 l.word1) (read 2 l.word2) with
  | some l => { s with bkd := { s.bkd with ledger := l, strapCopy := s.bkd.strapCopy.filter StrapCopy.sound },
                       tiu := { s.tiu with s10Mask := l.slotFailMask } }
  | none => { s with bkd := { s.bkd with ledger := Ledger.reset, strapCopy := none }, tiu := { s.tiu with s10Mask := 0 } }

/-- The alarm flag of a device that was in Basalt mode is cleared at its next start (R390). -/
def dropBasaltAlarm (s : State) : State := if s.bkd.ledger.basalt then commitNow .alarmClear s else s

/-- A start that was cut short is recorded, or dropped, by the cause of the present one (R152). -/
def closePrevious (cause : BitVec 3) (s : State) : State :=
  if s.bkd.ledger.startActive then
    if cause = 1 || cause = 2 || cause = 5 then recordFailure s.bkd.ledger.stepReached.toNat 0xFE s
    else if cause = 3 || cause = 4 then writeLedger (fun l => { l with startActive := false }) s
    else s
  else s

/-- RESET_N leaves Basalt mode (Table 5.8). -/
def leaveByPin (cause : BitVec 3) (s : State) : State :=
  if cause = 3 && s.bkd.ledger.basalt then
    raise 0x0A04 (arg 0) (writeLedger (fun l => { l with basalt := false, failCount := 0 }) { s with start := { s.start with owed := true } })
  else s

/-- S00, and from there the whole start. The core takes the wake requests that were held (R405). What the Flint banks lost before the start
is lost, whenever S11 finds it (R503). -/
def runStart (cause : BitVec 3) (i : StartIn) (s : State) : State :=
  let s := keepBanks i.banksHeld s
  let s := checkBackup i (settle { s with
    clk := { Clk.reset with core := true },
    power := { s.power with state := .run, trans := .none, resetLow := false, heldTick := false, heldMgmt := none, heldWake := false,
                            heldMatcher := false },
    straps := { s.straps with changed := false },
    eva := { s.eva with withhold := s.bkd.lost },
    start := { Start.reset with phase := .step 0, cause := cause, input := some i, owed := s.start.owed } })
  let s := leaveByPin cause (closePrevious cause (afterWake (dropBasaltAlarm s)))
  let s := { s with start := { s.start with afterFail := s.bkd.ledger.failCount != 0 } }
  let s := writeLedger (fun l => { l with resetCause := cause, startActive := true, stepReached := 0 }) s
  stepS01 i s

end Sys2Proof.Machine
end

