-- ==== Sys2Proof/Machine/Cycle.lean ====
section
/-!
DEFINITION. The measurement sequencer (chapter 08): ticks, launches, the end of a cycle, repeats, gap jobs, sweeps, and what a
power-fail warning does to them.
-/
namespace Sys2Proof.Machine

/-! ## Slots and lanes of a launch (R207, R208, R247) -/

/-- A direction at its launch: nothing found yet. -/
def AfeDir.ready (x : AfeDir) : AfeDir :=
  { x with phase := .waiting, edge := 0, lead := 0, rearms := 0, fired := false, flip := none, crossing := 0, early := false,
           irregular := false, noFlip := false, noLead := false, foreign := false, truncated := false }

/-- The first slots of a set wait for the stamps of a direction. -/
def assignDir (p : Idx3) (d : Dir) (ks : List Nat) (t : Tiu) : Tiu :=
  (List.zip (List.range ks.length) ks).foldl
    (fun t x => t.setSlot x.2 { t.slot x.2 with use := .stamp p d (x.1 + 1) }) t

/-- The slots that a path's launch assigns: of each set that serves a direction the first n_eff (R207, R208). -/
def State.slotsOf (s : State) (p : Idx3) (d : Dir) : List Nat := (setFor (setsAB (s.goodOf p)) s.seq.parity d).take (s.nEffOf p)

/-- The windows of a repeat: those of the discarded pair, with the sets as re-formed (R228, Table 7.5). -/
def TiuPath.again (n : Nat) (t : TiuPath) : TiuPath :=
  { t with nEff := n, failed := false, dirs := t.dirs.map (fun d => { d with stamps := [] }) }

/-- A path's windows at a launch: opened anew, or in a repeat as they were. -/
def State.windowsFor (s : State) (p : Idx3) : TiuPath :=
  let t := s.tiu.paths.get p
  if s.seq.phase = .repeating then t.again (s.nEffOf p) else s.conf.openWindows p (s.nEffOf p) t

/-- A path is launched: its gain takes effect, with its windows, its two sets by the parity of the cycle, and the lanes of the directions
received now (R180, R253). -/
def armPath (p : Idx3) (ds : List Dir) (s : State) : State :=
  let t := { s.tiu with paths := s.tiu.paths.set p (s.windowsFor p) }
  let t := assignDir p .dn (s.slotsOf p .dn) (assignDir p .up (s.slotsOf p .up) t)
  let a := s.afe.get p
  let lane := fun (d : Dir) (x : AfeDir) => if ds.contains d then x.ready else { x with phase := .idle }
  { s with tiu := t, afe := s.afe.set p { a with nUsed := s.conf.nUsed p, gain := a.nextGain,
                                                 dirs := ⟨lane .up a.dirs.up, lane .dn a.dirs.dn⟩ } }

/-- A direct test ends with BUSY when a launch of the paths `ps` needs a slot of it (Table 7.13). -/
def busyTest (ps : List Idx3) (s : State) : State :=
  let needed := ps.flatMap (fun p => s.slotsOf p .up ++ s.slotsOf p .dn)
  when (s.tiu.test.slots.any needed.contains) (endTest 4 0) s

/-- Several paths launched on one edge. -/
def armPaths (ps : List Idx3) (ds : List Dir) (s : State) : State := ps.foldl (fun t p => armPath p ds t) (busyTest ps s)

/-- The directions received at a launch edge (R247). -/
def State.shotDirs (s : State) : List Dir := if s.conf.alternating then [firstDir s.seq.parity] else [.up, .dn]

/-- Every slot and lane of the cycle given up: no conversion is checked and no slot retired (Table 7.15). -/
def releaseSlots (t : Tiu) : Tiu :=
  { t with slots := t.slots.map (fun x =>
      match x.use with
      | .stamp _ _ _ | .charged _ _ _ _ | .timeout => { x with use := .free }
      | .free | .testWait | .testStart _ | .testStop _ => x) }

/-- All lanes at rest. -/
def restLanes (a : Three AfePath) : Three AfePath := a.map (fun p => { p with dirs := p.dirs.map (fun x => { x with phase := .idle }) })

/-! ## Abandoning (R244, R267) -/

/-- A cycle that does not reach its snapshot: counted, the first of a run logged; past its launch edge the parity changes (R252). -/
def abandonCycle (s : State) : State :=
  let q := s.seq
  if q.phase = .none then s
  else
    let s := when (q.run == 0) (raise 0x0401 (arg 0)) s
    let s := { s with
      ag := { s.ag with noResult := s.ag.noResult && (q.kind != .sweep || q.sweepOn) },
      seq := { q with phase := .none, kind := .normal, acked := false, skipped := q.skipped + 1, run := q.run + 1,
                      parity := if q.phase = .before then q.parity else !q.parity, repeated := .const false, job := none, jobs := [] },
      tiu := releaseSlots s.tiu, afe := restLanes s.afe }
    withdraw (releaseSession (abandonSet s))

/-- A sweep is abandoned: no result, and the next falls due by its own interval (R267); between two of its cycles the votes go with it. -/
def abandonSweep (s : State) : State :=
  let s := raise 0x0403 (arg ((s.seq.sweeps.toNat + 1) % 65536 * 65536 + 2))
    { s with seq := { s.seq with sweepOn := false, sweepIdx := 0, sweepDue := false },
             ag := { s.ag with series := .const [], abandoned := true, noResult := false } }
  when (s.seq.phase == .none) withdraw s

/-- The cycle under way is abandoned, and the sweep that it belongs to (R267). -/
def abandonRun (s : State) : State := when s.inSweep abandonSweep (abandonCycle s)

/-- A gap job that runs ends without result and stays due (Table 8.5). -/
def abandonJob (s : State) : State :=
  let t := abandonSet s
  { t with seq := { t.seq with job := none, jobs := [] } }

/-- Nothing of the sequencer goes on after what was abandoned: VDRV is released, and a management tick or a park entry that waited may run
(R270, R497). -/
def standDown (s : State) : State :=
  if s.seq.phase == .none && s.seq.job.isNone && !s.seq.sweepOn then tryPark (takeMgmt (releaseVdrv s)) else s

/-! ## The cycle tick (R240 to R244, R265) -/

/-- The next nominal tick, with the timer at its dithered instant. -/
def advanceTick (s : State) : State :=
  let n := s.seq.nominal + BitVec.ofNat 32 s.conf.cyclePeriod
  { s with seq := { s.seq with nominal := n }, bkd := { s.bkd with timer := n + BitVec.ofInt 32 s.nextDither } }

/-- The timer stands before the 256th snapshot of a sweep, which a tick moved forward by its dither can do, or less than 4.0 ms, that is 132
LF periods, behind it (R265, R310). -/
def State.afterSweep (s : State) : Bool :=
  match s.seq.sweepEnd with
  | some t => decide ((s.bkd.timer - t).toInt < 132)
  | none => false

/-- An entry to a lower state is under way (Table 14.4). -/
def Trans.entering : Trans → Bool
  | .entryMemc _ | .entryPrq _ | .entryCommit _ | .lossWindow _ => true
  | .none | .exitSleep | .deepStrobe | .deepStart | .deepReload => false

/-- The tick starts no cycle (R243, R265, R310, R398, Table 12.6). One during an entry is held, to whatever state it leads (R409). -/
def State.tickIgnored (s : State) : Bool :=
  s.power.state == .deep || s.power.state == .off || s.power.fail.isSome || s.inSweep || s.ag.analysing || s.afterSweep ||
  (s.power.parked.isSome && !s.power.trans.entering) || s.seq.pfStop

/-- A tick is taken: its dither is that of the cycle it begins, and before a normal cycle the register has stepped (R308). -/
def ditherTick (s : State) : State :=
  let d := s.nextDither
  when (!s.beginsSweep) stepDither { s with seq := { s.seq with dither := d, sweepEnd := none } }

/-- The cycle of a held tick, which has not launched, is abandoned at the following tick (R244, Table 14.8). -/
def abandonHeld (s : State) : State :=
  if s.power.heldTick then
    { when (s.seq.run == 0) (raise 0x0401 (arg 0)) s with
      seq := { s.seq with skipped := s.seq.skipped + 1, run := s.seq.run + 1 }, power := { s.power with heldTick := false } }
  else s

/-- A tick that finds the device asleep or in a transition is held, in place of one held before. -/
def holdTick (s : State) : State :=
  let s := abandonHeld s
  { s with power := { s.power with heldTick := true } }

/-- CYCLE_TICK: the previous cycle, if it has not reached its snapshot, is abandoned, and a new one begins (R241, R244). -/
def execCycleTick (s : State) : Host.Outcome State Fault Refusal :=
  .next (if s.bkd.timerOn && s.cycling then
    let s := advanceTick s
    if s.tickIgnored then abandonHeld s
    else
      let s := abandonCycle (ditherTick s)
      let s := if s.seq.job.isSome then abandonJob s else s
      if s.awake && s.power.trans == .none then takeTick s else holdTick s
  else s)

/-! ## Launches (R245 to R248, R263) -/

/-- The conditions of a launch edge: the acknowledge and the reference are in, and no pre-cycle job runs or waits (R245, R261). -/
def State.launchReady (s : State) : Bool :=
  s.seq.phase == .before && s.seq.acked && s.clk.onRef && s.seq.job.isNone && !s.seq.preFull && !s.seq.preGain &&
  s.power.state == .run && !s.seq.pfStop

/-- What a normal cycle's launch says for the next sweep: whether this cycle fits (R266). -/
def noteFit (s : State) : State :=
  if s.seq.kind = .normal then { s with seq := { s.seq with lastFits := s.cycleFits } } else s

/-- The launch edge: a loan ends, and every path to be fired is launched (R210, R246). -/
def launchAt (coarse : BitVec 24) (s : State) : State :=
  let s := abandonSet s
  let f : Three Bool := ⟨s.fires .one, s.fires .two, s.fires .three⟩
  let s := voteFor .tiu 0 { s with
    seq := { s.seq with phase := .launched, before := s.afe, fired := f, repeated := .const false, altGap := 0 },
    tiu := { s.tiu with launch1 := coarse, coarse := coarse } }
  noteFit (armPaths (Idx3.all.filter f.get) s.shotDirs s)

/-- LAUNCH. -/
def execLaunch (coarse : BitVec 24) (s : State) : Host.Outcome State Fault Refusal :=
  .next (if s.launchReady && s.seq.kind == .normal then launchAt coarse s else s)

/-- The paths of the launch under way: those repeated, else those fired. -/
def State.shot (s : State) : List Idx3 :=
  if s.seq.repeated.toList.any id then Idx3.all.filter s.seq.repeated.get else Idx3.all.filter s.seq.fired.get

/-- No slot of the cycle waits for a crossing or for its conversion. -/
def Tiu.idleSlots (t : Tiu) : Bool :=
  t.slots.all (fun x =>
    match x.use with
    | .charged _ _ _ _ => false
    | .free | .stamp _ _ _ | .timeout | .testWait | .testStart _ | .testStop _ => true)

/-- The lanes of a direction are released and their conversions are in hand. -/
def State.dirDone (s : State) (d : Dir) : Bool :=
  s.shot.all (fun p => (s.lane p d).phase == .released) && s.tiu.idleSlots

/-- The gap of R248: reference periods from the first launch to the second. -/
def State.gapRef (s : State) : Nat := twiceInRef (s.latestClose (Idx3.all.filter s.seq.fired.get) [firstDir s.seq.parity])

/-- SECOND_LAUNCH: the other side transmits, and the other direction is received; a repeat keeps the spacing (R227, R248). -/
def execSecondLaunch (coarse : BitVec 24) (s : State) : Host.Outcome State Fault Refusal :=
  .next (let d := otherDir (firstDir s.seq.parity)
    let gap := if s.seq.phase = .repeating then s.seq.altGap.toNat else s.gapRef
    if (s.seq.phase == .launched || s.seq.phase == .repeating) && s.conf.alternating && s.dirDone (firstDir s.seq.parity) &&
        (coarse - s.tiu.launch1).toNat == gap then
      s.shot.foldl (fun t p => setLane p d (t.lane p d).ready t)
        { s with seq := { s.seq with phase := .second, altGap := BitVec.ofNat 16 gap },
                 tiu := { s.tiu.resetAll with launch2 := coarse, coarse := coarse } }
    else s)

/-- SWEEP_LAUNCH: the first launch of a due sweep, or the next of its 256 (R263, R264). -/
def execSweepLaunch (coarse : BitVec 24) (timer : BitVec 32) (s : State) : Host.Outcome State Fault Refusal :=
  .next (if s.seq.sweepOn then
    (if s.seq.phase == .none && s.clk.onRef && !s.seq.pfStop && decide (s.seq.sweepIdx < 256) then
      launchAt coarse (openSession { s with
        seq := { s.seq with sweepIdx := s.seq.sweepIdx + 1, begin := timer, kind := .sweep, lenUs := 0, driveNow := false },
        bkd := { s.bkd with timer := timer }, afe := s.afe.map (fun x => { x with drive := false, clamp := .const false }) })
    else s)
  else if s.launchReady && s.seq.kind == .sweep && s.seq.jobs.isEmpty then
    raise 0x0403 (arg ((s.seq.sweeps.toNat + 1) % 65536 * 65536)) (launchAt coarse
      { s with seq := { s.seq with sweepOn := true, sweepIdx := 1, sweepFirstS := s.now, begin := timer, unfit := false,
                                   sweepDue := false },
               bkd := { s.bkd with timer := timer }, ag := { s.ag with series := .const [] } })
  else s)

/-! ## After the conversions of a pair (R180, R181, R196) -/

/-- The automatic gain rule: gain code and low count for the next pair (R180). -/
def nextGain (gain : BitVec 3) (low peak : Nat) : BitVec 3 × Nat :=
  if 224 ≤ peak then (if gain = 0 then 0 else gain - 1, 0)
  else if peak ≤ 96 then
    (if low + 1 = 4 then (if gain = 7 then 7 else gain + 1, 0) else (gain, low + 1))
  else (gain, 0)

/-- The threshold code of the next pair (R181). -/
def nextThr (c : Conf) (peak : Byte) (now next : BitVec 3) : Byte :=
  if peak.toNat < c.floorCode then BitVec.ofNat 8 c.floorCode
  else
    let k := peak.toNat * c.permille * 2 ^ next.toNat / (1000 * 2 ^ now.toNat)
    BitVec.ofNat 8 (min (max k c.floorCode) c.ceiling)

/-- A direction's result, counted (Table 6.8, R196), and its next threshold. -/
def AfeDir.settle (x : AfeDir) (c : Conf) (drive : Bool) (now next : BitVec 3) : AfeDir :=
  let r := x.outcome drive c.floorCode
  { x with result := r, thr := nextThr c x.peak now next,
           counts := x.counts.set r.code (x.counts.getD r.code 0 + 1) }

/-- A path after its pair; the gain code in use stays until the next one's launch (R253). -/
def pairDone (p : Idx3) (s : State) : State :=
  let a := s.afe.get p
  let g := if s.autoGain then nextGain a.gain a.low (max a.dirs.up.peak.toNat a.dirs.dn.peak.toNat) else (a.gain, 0)
  { s with afe := s.afe.set p { a with nextGain := g.1, low := g.2, dirs := a.dirs.map (fun x => x.settle s.conf a.drive a.gain g.1) } }

/-! ## The repeat (R226 to R228) -/

/-- The latest window close of the cycle from its launch edge, in grid units (R227). -/
def State.closeOf (s : State) (ps : List Idx3) : Nat :=
  if s.conf.alternating then
    let d := firstDir s.seq.parity
    max (s.latestClose ps [d]) (4 * s.seq.altGap.toNat + s.latestClose ps [otherDir d])
  else s.latestClose ps [.up, .dn]

/-- The paths whose pair failed a check and can be repeated: at least four good slots are left. -/
def State.repeatable (s : State) : List Idx3 :=
  s.shot.filter (fun p => (s.tiu.paths.get p).failed && !s.lacksSlots p)

/-- Reference periods from the launch edge to the repeat's (R227). -/
def State.repeatAt (s : State) : Nat := twiceInRef (s.closeOf (Idx3.all.filter s.seq.fired.get))

/-- A repeat is made: none was yet, the cycle is no sweep cycle, and every window closes within 1 800 µs. -/
def State.repeats (s : State) : Bool :=
  s.seq.kind == .normal && !s.seq.repeated.toList.any id && !s.repeatable.isEmpty &&
  decide (4 * s.repeatAt + s.closeOf s.repeatable ≤ 172800)

/-- The repeat of the paths that failed waits for its launch edge. -/
def planRepeat (s : State) : State :=
  let ps := s.repeatable
  let r : Three Bool := ⟨ps.contains .one, ps.contains .two, ps.contains .three⟩
  let s := ps.foldl (fun t p =>
    let a := t.afe.get p
    { t with afe := t.afe.set p { a with dirs := a.dirs.map (fun x => { x with phase := .idle }) } }) s
  { s with seq := { s.seq with repeated := r, phase := .repeating } }

/-- The repeat has not been launched yet. -/
def State.repeatWaits (s : State) : Bool :=
  s.seq.phase == .repeating && s.shot.all (fun p => (s.lane p .up).phase == .idle && (s.lane p .dn).phase == .idle)

/-- A path's repeat is made: counted and logged with the path (R229). -/
def logRepeat (s : State) (p : Idx3) : State :=
  raise 0x0302 (arg p.num) { s with tiu := { s.tiu with repeats := s.tiu.repeats + 1 } }

/-- REPEAT_LAUNCH: the repeat's launch edge on the re-formed sets (R227, R228). -/
def execRepeatLaunch (coarse : BitVec 24) (s : State) : Host.Outcome State Fault Refusal :=
  .next (if s.repeatWaits && (coarse - s.tiu.launch1).toNat == s.repeatAt then
    armPaths s.shot s.shotDirs (s.shot.foldl logRepeat { s with tiu := { s.tiu with launch1 := coarse, coarse := coarse } })
  else s)

/-! ## Gap jobs (R258 to R260) -/

/-- The slots' length of a gap job in 0.1 ns (Table 7.9, R321). -/
def State.jobLen (s : State) : Job → Nat
  | .gain => 3700000
  | .temp => s.setLen10
  | .inl => 103200000
  | .full => 106900000
  | .preGain => 3700000

/-- The gap jobs due, in the order of R260; the INL calibration is skipped while the vernier is at fault (R233). -/
def State.dueJobs (s : State) : List Job :=
  (if s.seq.gainDue then [.gain] else []) ++ (if s.seq.tempDue && !s.temp.mismatch then [.temp] else []) ++
  (if s.seq.inlDue && !s.tiu.vernierBad then [.inl] else [])

/-- A job begins when it fits (R259), a conversion set when a slot can be lent, and an INL calibration while the vernier is good (R233). -/
def startJob (j : Job) (s : State) : Option State :=
  if s.fits (s.jobLen j) then
    match j with
    | .temp =>
      let t := startSet false s
      if t.temp.set.isSome then some t else none
    | .inl => if s.tiu.vernierBad then none else some s
    | .gain | .full | .preGain => some s
  else none

/-- The first job that begins, and those after it. -/
def firstJob : List Job → State → Option (Job × List Job × State)
  | [], _ => none
  | j :: js, s =>
    match startJob j s with
    | some t => some (j, js, t)
    | none => firstJob js s

/-- The gap goes on with its next job, or ends: the votes are withdrawn and a park entry may follow (Table 8.2 steps 12, 13). -/
def nextJob (js : List Job) (s : State) : State :=
  match firstJob js s with
  | some (j, rest, t) => releaseVdrv { t with seq := { t.seq with job := some j, jobs := rest } }
  | none => tryPark (takeMgmt (releaseVdrv (withdraw { s with seq := { s.seq with job := none, jobs := [] } })))

/-! ## The end of a cycle (Table 8.2 steps 9 to 13) -/

/-- The run of abandoned cycles has ended (R244). -/
def endRun (s : State) : State :=
  if s.seq.run = 0 then s else raise 0x0402 (arg s.seq.run) { s with seq := { s.seq with run := 0 } }

/-- The cycle timer at the snapshot of the cycle under way, from the timer at its launch and the microseconds since then, to the nearest
LF period (DEDUCED, log entry 78). -/
def State.snapshotTimer (s : State) : BitVec 32 :=
  s.seq.begin + BitVec.ofInt 32 (roundDiv ((s.seq.lenUs.toNat * 32768 : Nat) : Int) 1000000)

/-- The 256th snapshot ends the sweep: its analysis begins, or after a reset of AG the sweep ends without a result (R264, R310, R312, Table
10.3). -/
def endSweep (s : State) : State :=
  let n := s.seq.sweeps + 1
  let q := { s.seq with sweepOn := false, sweepIdx := 0, sweeps := n, lastSweepS := s.seq.sweepFirstS,
                        sweepEnd := some s.snapshotTimer }
  let s := raise 0x0403 (arg (n.toNat * 65536 + 1)) { s with seq := q }
  if s.ag.noResult then
    logNoResult { s with ag := { s.ag with noResult := false, abandoned := true, lastInvalid := true, series := .const [] } }
  else voteFor .ag 0 { s with ag := { s.ag with analysing := true } }

/-- A sweep cycle's samples pass to AG, and the 256th ends the sweep. -/
def sweepCycle (s : State) : State :=
  let s := { s with ag := { s.ag with series := s.ag.series.imap (fun p xs => xs ++ [(s.fe.paths.get p).sample.map Prod.snd]) } }
  if s.seq.sweepIdx < 256 then s else endSweep s

/-- Steps 3 and 4 of Table 12.6: the save, unless no snapshot is newer, and then the queue (R501). -/
def powerFailSave (s : State) : State :=
  if s.mem.usable then
    let s := if s.save.current then s else requestMem (.save true 1 none) s
    when (s.hmc.on && !s.eva.queue.isEmpty) (requestMem .log) s
  else s

/-- The L-die's measurement for a snapshot (R451). -/
def measurePort (m : PhyMeas) (s : State) : State :=
  { s with phy := { s.phy with meas := m, inLimit := m.limit && s.phy.injector } }

/-- S12 passes at the first snapshot (R146). -/
def firstSnapshot (s : State) : State :=
  match s.start.phase with
  | .step 12 => passS12 s
  | _ => s

/-- FE and EE compute, the snapshot is taken, and the gap begins. The snapshot of a sweep's last cycle is taken before the sweep ends, so that
it shows the count and time of the sweeps before (DESIGN CHOICE, log entry 98). -/
def completeCycle (lenUs : Nat) (m : PhyMeas) (s : State) : State :=
  let kind := s.seq.kind
  let launched := s.seq.phase != .before
  let s := energyStep (flowStep (awaitShadows s))
  let s := takeSnapshot (measurePort m { s with
    seq := { s.seq with cycles := s.seq.cycles + 1, lenUs := if launched then BitVec.ofNat 16 (holdAt 65535 lenUs) else 0,
                        driveLast := s.seq.driveNow } })
  let s := releaseSession { s with
    seq := { s.seq with phase := .none, acked := false, repeated := .const false,
                        parity := if launched then !s.seq.parity else s.seq.parity },
    afe := restLanes s.afe }
  let s := alarmSave (firstSnapshot (endRun s))
  let s := if s.seq.sweepOn then sweepCycle s else s
  let s := startPulse true (startPulse false (if s.seq.pfStop then powerFailSave s else s))
  if s.seq.sweepOn then s
  else
    let s := { s with seq := { s.seq with kind := .normal } }
    nextJob (if kind = .normal && !s.seq.pfStop then s.dueJobs else []) s

/-- The conversions of the launch, or of both launches, are in hand (R204). -/
def State.conversionsIn (s : State) : Bool :=
  s.lanesDone && s.tiu.idleSlots && !s.repeatWaits &&
  (s.seq.phase == .second || ((s.seq.phase == .launched || s.seq.phase == .repeating) && !s.conf.alternating))

/-- A suspended cycle that has its voltage: it fires nothing and reaches its snapshot on the RC (R19, R419). -/
def State.suspendedReady (s : State) : Bool := s.seq.phase == .before && s.seq.kind == .suspended && s.seq.acked

/-- CONVERSIONS_COMPLETE: gain and thresholds for the next pairs, then the repeat, or FE, EE and the snapshot (Table 8.2); a suspended
cycle has nothing to convert. -/
def execConversionsComplete (lenUs : Nat) (m : PhyMeas) (s : State) : Host.Outcome State Fault Refusal :=
  .next (if s.suspendedReady then completeCycle 0 m s
  else if s.conversionsIn then
    let s := s.shot.foldl (fun t p => pairDone p t) { s with tiu := s.tiu.resetAll }
    if s.repeats then planRepeat s else completeCycle lenUs m s
  else s)

/-- The running job's results apply at once (R222). Every calibration has its ring calibration, the full one after the self-test that
precedes it (Table 7.9, R224). A slot that the full calibration on regaining the reference retires counts as retired since S10 (DEDUCED,
log entry 99). -/
def finishJob (r : JobResult) (j : Job) (s : State) : State :=
  let gain := fun (t : State) =>
    let t := calibrateWith (fun x c => gainSlot x t.now c) r.cal t
    { t with tiu := { t.tiu with gainAtS := some t.now }, hmc := { t.hmc with dieAtCal := t.hmc.die100 } }
  let inl := fun (t : State) =>
    let t := calibrateWith (inlSlot t.tiu.rings) r.cal t
    { t with tiu := { t.tiu with inlAtS := some t.now }, seq := { t.seq with inlDue := false } }
  match j with
  | .gain =>
    let t := gain (ringCalibrate r.ring s)
    { t with seq := { t.seq with gainDue := false } }
  | .preGain =>
    let t := gain (ringCalibrate r.ring s)
    { t with seq := { t.seq with gainDue := false, preGain := false } }
  | .inl => inl s
  | .temp => s
  | .full =>
    let t := gain (ringCalibrate r.ring (selfTestRun r.selfTest s))
    let t := if t.tiu.vernierBad then t else inl t
    { t with seq := { t.seq with gainDue := false, preFull := false, preGain := false } }

/-- The job was not cut short: its calibration has all 24 slots. -/
def jobWhole (r : JobResult) : Bool := r.cal.length == 24

/-- GAP_JOB_COMPLETE: the results apply, and the next job, the launch or the idle timer follows (R258, R261). A calibration cut short leaves
no result and stays due (Table 8.5). -/
def execGapJobComplete (r : JobResult) (s : State) : Host.Outcome State Fault Refusal :=
  .next (match s.seq.job with
    | none => s
    | some j =>
      if j = .temp && s.temp.set.isSome then s
      else
        let t := { s with seq := { s.seq with job := none } }
        let s := if jobWhole r then finishJob r j t else t
        if s.seq.phase = .before then preCycle s else nextJob s.seq.jobs s)

/-! ## What falls due (R221, R262, R268) -/

/-- GAIN_CALIBRATION_DUE. -/
def execGainCalibrationDue (s : State) : Host.Outcome State Fault Refusal :=
  .next (if s.cycling then { s with seq := { s.seq with gainDue := true } } else s)

/-- INL_CALIBRATION_DUE. -/
def execInlCalibrationDue (s : State) : Host.Outcome State Fault Refusal :=
  .next (if s.cycling then { s with seq := { s.seq with inlDue := true } } else s)

/-- SWEEP_DUE: none falls due with sweeps switched off (R262) or AG out of service (R313). -/
def execSweepDue (s : State) : Host.Outcome State Fault Refusal :=
  .next (if s.cycling && s.conf.sweepInterval.isSome && !s.start.agOut && !s.inSweep then
    { s with seq := { s.seq with sweepDue := true } }
  else s)

/-- AGATE_ANALYSIS_COMPLETE: the result takes its place, AG withdraws its vote, and a waiting park entry may run (R310, Table 10.3). -/
def execAgateAnalysisComplete (s : State) : Host.Outcome State Fault Refusal :=
  .next (if s.ag.analysing then tryPark (voteFor .ag 2 (finishAnalysis s)) else s)

/-- DEFERRED_TIME_SET_COMMIT: the deferred time commits once the sweep is over (R268). -/
def execDeferredTimeSetCommit (s : State) : Host.Outcome State Fault Refusal :=
  .next (match s.seq.deferred with
    | some c => if s.inSweep then s else request (.time c) { s with seq := { s.seq with deferred := none } }
    | none => s)

/-- VERNIER_SELF_TEST_TIMER: in Basalt mode the self-test runs every 60 s and the Basalt snapshot is refreshed (R234, R484). -/
def execVernierSelfTestTimer (t : SelfTest) (s : State) : Host.Outcome State Fault Refusal :=
  .next (if s.inBasalt && s.role != .standAlone && s.clk.core then basaltSnapshot (selfTestRun t s) else s)

/-! ## The power-fail warning (R61, R350, Table 12.6) -/

/-- Cycles run, so that a warning concerns the sequencer. -/
def State.cyclesRun (s : State) : Bool := s.cycling && s.awake

/-- An insertion between steps 2 and 4 of Table 15.5 stops (Table 15.10). -/
def Phy.stopInsertion (p : Phy) : Phy := if p.ins = .waitGap then { p with ins := .removing } else p

/-- The warning holds the device in RUN (Table 12.6 step 4). -/
def holdRun (s : State) : State :=
  if s.power.trans = .none then { s with power := { s.power with state := .run, idleTimer := false } } else s

/-- Step 1 of Table 12.6: no gap job and no sweep goes on; a cycle past its launch does. -/
def stopCycles (s : State) : State :=
  if s.inPair then holdRun (when s.inSweep abandonSweep s)
  else
    let s := abandonRun s
    powerFailSave (holdRun (standDown (if s.seq.job.isSome then withdraw (abandonJob s) else s)))

/-- POWER_FAIL_WARNING: in link supply mode: counted, logged, and no new cycle from now on. -/
def execPowerFailWarning (s : State) : Host.Outcome State Fault Refusal :=
  .next (if s.linkSupply && !s.phy.powerFail then
    let s := raiseFlag flagPowerfail 0x0207 (arg 0)
      { s with phy := { s.phy.stopInsertion with powerFail := true, holdUp := true, powerFails := s.phy.powerFails + 1 },
               seq := { s.seq with pfStop := true } }
    if s.cyclesRun then stopCycles s else s
  else s)

/-- POWER_FAIL_CYCLE_LIMIT: a cycle past its launch has not reached its snapshot after 2 ms (Table 12.6 step 2). -/
def execPowerFailCycleLimit (s : State) : Host.Outcome State Fault Refusal :=
  .next (if s.seq.pfStop && s.seq.phase != .none then powerFailSave (standDown (abandonCycle s)) else s)

/-- POWER_FAIL_CLEAR: the warning clears, the votes decide the state again, and cycles resume at the next dithered tick. -/
def execPowerFailClear (s : State) : Host.Outcome State Fault Refusal :=
  .next (if s.phy.powerFail then
    let t := { s with phy := { s.phy with powerFail := false }, seq := { s.seq with pfStop := false } }
    if s.cyclesRun then tryPark (retime t) else t
  else s)

end Sys2Proof.Machine
end

