-- ==== Sys2Proof/Machine/Clock.lean ====
section
/-!
DEFINITION. The reference: its declaration, the switch onto it, its loss, and the limit of a wake (R15 to R19, R224, R419); and the
exit from DEEP SLEEP from the settled VCORE to the reloaded firmware (Table 14.5, R402, R403).
-/
namespace Sys2Proof.Machine

/-! ## Present -/

/-- The degraded mode "reference absent" ends: logged, and the self-test and full calibration wait for the next pair (R224). -/
def endAbsence (s : State) : State :=
  if s.clk.absent then
    raise 0x0205 (arg 0) { s with clk := { s.clk with absent := false },
                                  seq := { s.seq with preFull := s.seq.preFull || !s.inBasalt } }
  else s

/-- REFERENCE_DECLARED_PRESENT: the check's counters show the counts of R18, so that S05 passes, or a wake's check succeeds (R18, R224). -/
def execReferenceDeclaredPresent (s : State) : Host.Outcome State Fault Refusal :=
  .next (if s.clk.presence.check.declares && s.clk.core && s.clk.checks then
    let s := { s with clk := { s.clk with presence := ⟨0, 0, 0⟩ } }
    (match s.start.phase, s.start.input with
     | .step 5, some i => passS05 { i with hang := none } s
     | _, _ => endAbsence { s with clk := { s.clk with declared := true } })
  else s)

/-- No slot is charging and no pair is under way (R15). -/
def State.betweenPairs (s : State) : Bool :=
  s.tiu.idleSlots && (s.seq.phase == .none || s.seq.phase == .before)

/-- The exit under way waits for nothing but the reference. -/
def State.exitWaitsForClock (s : State) : Bool :=
  match s.power.trans with
  | .exitSleep => s.prq.req.isNone
  | .deepReload => s.hmc.on
  | .none | .entryMemc _ | .entryPrq _ | .entryCommit _ | .lossWindow _ | .deepStrobe | .deepStart => false

/-- CLOCK_SWITCH_TO_REFERENCE: the core changes onto the declared reference, which ends an exit that waited for it (R15, R17, R408). -/
def execClockSwitchToReference (s : State) : Host.Outcome State Fault Refusal :=
  .next (if s.clk.core && s.clk.declared && !s.clk.onRef && s.betweenPairs then
    let s := toReference s
    if s.exitWaitsForClock then endTransition s else prqNext s
  else s)

/-! ## Absent -/

/-- The degraded mode begins: event 0x0204 with its reason, the flag REF_LOST, and FAULT_N (R419, R520). -/
def beginAbsence (reason : Nat) (s : State) : State :=
  setFault (raiseFlag flagRefLost 0x0204 (arg reason)
    { s with clk := { s.clk with presence := ⟨0, 0, 0⟩, onRef := false, declared := false, absent := true } })

/-- What was measured or calibrated when the reference went: a direct test ends with NOREF (Table 7.13), a cycle past its launch leaves
gains, thresholds, counters and locks as before it (Table 7.15), and a sweep and a running job are abandoned. -/
def dropMeasurement (s : State) : State :=
  let s := when s.tiu.testing (endTest 5 0) s
  let s := abandonRun (if s.inPair then { s with afe := s.seq.before } else s)
  standDown (if s.seq.job.isSome then withdraw (abandonJob s) else s)

/-- REFERENCE_DECLARED_ABSENT: the core changes onto the RC at once (R15, Table 7.15). -/
def execReferenceDeclaredAbsent (s : State) : Host.Outcome State Fault Refusal :=
  .next (if s.clk.core && s.clk.onRef then dropMeasurement (beginAbsence 0x40 s) else s)

/-- REFERENCE_WAKE_LIMIT: 5 ms after its enable the reference is not declared. The cycle of that wake is abandoned and the degraded mode
begins; in that mode a suspended cycle reaches its snapshot on the RC (R19, R419). -/
def execReferenceWakeLimit (c : RefCheck) (m : PhyMeas) (s : State) : Host.Outcome State Fault Refusal :=
  .next (if s.clk.core && s.clk.refOn && !s.clk.declared && s.cycling then
    (if s.clk.absent then
      let s := { s with clk := { s.clk with presence := ⟨0, 0, 0⟩, refOn := s.linkSupply } }
      if s.suspendedReady then completeCycle 0 m s else s
    else
      let s := standDown (abandonRun (beginAbsence (refReason c) s))
      if s.exitWaitsForClock then endTransition s else s)
  else s)

/-! ## Exit from DEEP SLEEP (Table 14.5) -/

/-- What DEEP SLEEP loses: every register outside the Flint banks; the blocks resume as after a start (R393, R403). The park, the nominal tick,
and what the spec keeps until the next start stay: the address held (R88), the memory's parameters (R100), AG out of service (R313), the
MISMATCH of the sensors (R328) and the degraded mode, a full calibration owed (R224), a vernier found at fault (R233), the slots retired at
S10 as the ledger names them (Table 7.11), and the watchdog's count and record (R496). -/
def leaveRetention (s : State) : State :=
  let slots := s.tiu.slots.map (fun x => { x with use := .free })
  let s := { s with
    seq := { Seq.reset with nominal := s.seq.nominal, pfStop := s.phy.powerFail, preFull := s.seq.preFull },
    tiu := { Tiu.reset with slots := slots, gainAtS := s.tiu.gainAtS, inlAtS := s.tiu.inlAtS, s10Mask := s.tiu.s10Mask,
                            vernierBad := s.tiu.vernierBad },
    ag := { Ag.reset with outOfService := s.start.agOut },
    ee := s.ee.retained,
    snap := Snapshot.reset,
    hmc := s.hmc.held,
    bkd := { s.bkd with strobe := false },
    lnk := { Lnk.reset with on := s.lnk.on, address := s.lnk.address },
    head := Head.reset }
  startFlow (startAfe (if s.temp.mismatch then s else startSensors s))

/-- VCORE_SETTLED: steps 3 and 4: the core starts on the RC at 0.75 V, the Flint banks are checked as at S11, the run voltage is requested and,
but in a retry after a failed wake, the reference enabled (R417). -/
def execVcoreSettled (s : State) : Host.Outcome State Fault Refusal :=
  .next (match s.power.trans with
    | .deepStrobe =>
      let s := { s with
        clk := { Clk.reset with core := true, refOn := s.power.fail.isNone, absent := s.clk.absent },
        prq := { Prq.reset with vcore := 1, bor := some 1 },
        power := { s.power with state := .run, trans := .deepStart, seq := 2, tiu := 2, fe := 2, ee := 2, ag := 2, lnk := 2, hmc := 2,
                                standing := s.linkSupply, hold := none, idleTimer := false } }
      let s := afterWake (leaveRetention s)
      match settleRegisters s with
      | none => startFails 11 0x71 s
      | some t => transmit .deepExit false 2 false (setDue t)
    | _ => s)

/-- The firmware bank in use copied to the code SRAM (Table 14.5 step 6). -/
def reload (s : State) : State :=
  match s.banks.fw with
  | some k => { s with banks := { s.banks with code := s.mem.codeOf k } }
  | none => s

/-- FIRMWARE_RELOAD_COMPLETE: on a match the management core is released, which writes a queue that has reached 32 records meanwhile (R501), a
snapshot stands (R538) and the gain calibration waits for the first launch; a difference is a failure of S08 (R403). -/
def execFirmwareReloadComplete (s : State) : Host.Outcome State Fault Refusal :=
  .next (match s.power.trans with
    | .deepReload =>
      if s.hmc.on then s
      else
        let s := reload s
        if s.banks.fw.isSome && codeDigest s.banks.code == s.banks.fwDigest then
          let s := logWhenHalf (serveAlarm (alarmSave (initialSnapshot
            { s with hmc := { s.hmc with on := true }, seq := { s.seq with preGain := true } })))
          if s.clk.onRef || s.clk.absent then endTransition s else s
        else startFails 8 0x85 (setFault (raise 0x0A0E (arg 0) s))
    | _ => s)

end Sys2Proof.Machine
end

