-- ==== Sys2Proof/Machine/Operands.lean ====
section
/-!
DEFINITION. The operand forms of the Watal link: payload fields (Tables 16.5, 16.12), which payload lengths fit a type (R480), and the
response payloads that are read from State (Tables 16.12, 16.18).
-/
namespace Sys2Proof.Machine

/-! ## Types (Table 16.12) -/

/-- The types that a device serves. -/
def servedTypes : List (BitVec 6) :=
  [typePing, typeIdentify, typeRead, typeStatus, typeClear, typeSweep, typeEnumerate, typeAssign, typeNotice, typeTimeSet,
   typeTimeRead, typeAlarmSet, typeState, typeBlockReset, typeImageOpen, typeImageBlock, typeImageCommit, typeImageAbort,
   typeLogRead, typeClaim]

/-- SWEEP, ENUMERATE and NOTICE WINDOW (R464). -/
def isTrain (t : BitVec 6) : Bool := t == typeSweep || t == typeEnumerate || t == typeNotice

/-- The types that a broadcast serves (R481). -/
def servedBroadcast (t : BitVec 6) : Bool := isTrain t || t == typeTimeSet || t == typeState

/-- Served whatever runs (R482). -/
def servedBusy (t : BitVec 6) : Bool := t == typePing || t == typeIdentify || t == typeStatus

/-- Served in Basalt mode (Tables 5.7, 16.13). -/
def servedInBasalt (t : BitVec 6) : Bool :=
  servedBusy t || t == typeAssign || t == typeBlockReset || t == typeImageOpen || t == typeImageBlock || t == typeImageCommit ||
  t == typeImageAbort

/-- Served without the management core: LNK answers PING and ASSIGN itself (R494). -/
def servedByLnk (t : BitVec 6) : Bool := t == typePing || t == typeAssign || isTrain t

/-! ## Addresses (Table 16.3) -/

/-- An address that a member can hold by ASSIGN: 1 to 1000. -/
def memberAddress (a : BitVec 10) : Bool := decide (1 ≤ a.toNat) && decide (a.toNat ≤ 1000)

/-- An address in bits 15 to 6 of two payload bytes. -/
def addressAt (p : List Byte) (off : Nat) : BitVec 10 := BitVec.ofNat 10 (fieldN p off 2 / 64)

/-! ## Lengths (R480) -/

/-- The payload's length fits the type (Table 16.12); a CLEAR has one generation per mask bit. -/
def lengthFits (t : BitVec 6) (p : List Byte) : Bool :=
  let n := p.length
  if t = typeRead || isTrain t || t = typeAlarmSet then n == 4
  else if t = typeClear then decide (2 ≤ n) && n == 2 + ones (BitVec.ofNat 16 (fieldN p 0 2))
  else if t = typeAssign then n == 10
  else if t = typeTimeSet then n == 6
  else if t = typeState || t = typeBlockReset then n == 1
  else if t = typeImageOpen then n == 8
  else if t = typeImageBlock then decide (8 ≤ n) && decide (n ≤ 132) && n % 4 == 0
  else if t = typeLogRead then n == 5
  else if t = typeClaim then n == 40
  else n == 0

/-! ## Payloads read from State -/

/-- PING (Table 16.12), from the snapshot. -/
def pingPayload (x : Snapshot) : List Byte :=
  [BitVec.ofNat 8 x.pstate.toCode, modeByte x.role x.basalt x.absent x.parked] ++ be 4 x.time.deviceS

/-- A claim state's code (Table 16.18). -/
def Claim.code : Claim → Byte
  | .unclaimed => 0
  | .incomplete => 1
  | .claimed => 2

/-- digital_straps. -/
def Straps.digitalByte (s : Straps) : Byte :=
  flagByte s.levels.p1 s.levels.p2 s.levels.p3 s.levelSub.p1 s.levelSub.p2 s.levelSub.p3 false false

/-- One byte of cfg_codes. DESIGN CHOICE (log entry 73): an unreadable CFG_B or CFG_C of a Basalt start without a valid copy is shown as code 7
with bits 7 and 6 clear, since R96 names neither a code nor a bit for it. -/
def Straps.codeByte (s : Straps) (k : Nat) : Byte :=
  let un := s.codeUnread.getD k false
  BitVec.ofBool (s.codeSub.getD k false) ++ BitVec.ofBool un ++ (0 : BitVec 3) ++ (if un then 7 else (s.codes.getD k none).getD 7)

/-- A bank as IDENTIFY prints it. -/
def bankByte : Option Bank → Byte
  | some k => BitVec.ofNat 8 (bankNum k)
  | none => 0xFF

/-- Table 16.18. -/
def identifyPayload (s : State) : List Byte :=
  be 8 s.fuse.uid ++ [(s.fuse.shadow.getD 2 0).extractLsb' 24 8, s.fuse.claim.code, s.straps.digitalByte] ++
    (List.range 6).map s.straps.codeByte ++ [bankByte s.banks.conf] ++ be 4 s.banks.confSeq ++ be 4 s.banks.imageId ++
    be 4 s.banks.imageVersion ++ be 4 s.banks.created ++ [bankByte s.banks.fw, 0] ++ be 4 s.banks.fwSeq ++ be 4 s.banks.fwVersion ++
    s.bkd.ledger.bytes ++ be 4 s.conf.meterId ++ s.conf.label

/-- STATUS (Table 16.12): the snapshot's status part, vernier_check and power state, and the ledger. -/
def statusPayload (s : State) : List Byte :=
  statusPart s.snap.status s.snap.flags ++ s.bkd.ledger.bytes ++
    [s.snap.tiu.getD 0x14 0, BitVec.ofNat 8 s.snap.pstate.toCode, 0, 0]

/-- TIME READ (Table 16.12). -/
def timePayload (s : State) : List Byte :=
  s.snap.time.bytes ++ beN 3 (holdAt 0xFFFFFF s.snap.ageLf) ++ [flagByte s.seq.deferred.isSome false false false false false false false]

/-- READ: the part's bytes, or none where the part is unknown or the range leaves it (Table 16.13). -/
def readPayload (x : Snapshot) (p : List Byte) : Option (List Byte) :=
  let off := fieldN p 1 1
  let n := fieldN p 2 1
  match x.part (fieldN p 0 1) with
  | none => none
  | some d => if within 1 232 n && decide (off + n ≤ d.length) then some (p ++ be 4 x.time.deviceS ++ slice d off n) else none

/-- The calendar of a TIME SET: seconds, minutes, hours, date, month, year. -/
def calOf (p : List Byte) : Cal := ⟨p.getD 0 0, p.getD 1 0, p.getD 2 0, p.getD 3 0, p.getD 4 0, p.getD 5 0⟩

/-- The setting of an ALARM SET: mode, hour, minute, second; the mode byte must be one of Table 4.19. -/
def alarmOf (p : List Byte) : Option AlarmSet :=
  let a : AlarmSet := ⟨BitVec.ofNat 2 (fieldN p 0 1), p.getD 1 0, p.getD 2 0, p.getD 3 0⟩
  if fieldN p 0 1 ≤ 2 && a.ok then some a else none

/-- The image of an IMAGE OPEN: kind, bank and length, when they are in range (Table 16.13). -/
def openOf (p : List Byte) : Option (Bool × Bank × Nat) :=
  let k := fieldN p 0 1
  let b := fieldN p 1 1
  let n := fieldN p 4 4
  let limit := if k = 1 then 65536 else 16384
  if k ≤ 1 && b ≤ 1 && n != 0 && n % 4 == 0 && n ≤ limit then some (k == 1, if b = 1 then .b else .a, n) else none

end Sys2Proof.Machine
end

