-- ==== Sys2Proof/Machine/Phy.lean ====
section
/-!
DEFINITION. The L-die (chapter 15): insertion and removal, the bypass and the pass element, tail, isolation, the head's line and the
repeater's direction.
-/
namespace Sys2Proof.Machine

/-- The link is in use, so that an insertion is wanted: in Basalt mode, from S13 on, and after the start (R442, R443). -/
def State.linkWanted (s : State) : Bool :=
  s.lnk.on &&
  (match s.start.phase with
   | .running | .basalt => true
   | .step n => n == 13
   | .inReset | .delay | .factory => false)

/-- S13 passes once the link is up (R147). -/
def passS13 (s : State) : State :=
  match s.start.phase with
  | .step 13 => startSucceeds s
  | _ => s

/-- The device counts an insertion and logs it (R443, Table 15.9). -/
def countInsertion (s : State) : State :=
  passS13 (raise 0x0801 (arg 1) { s with phy := { s.phy with inserts := s.phy.inserts + 1 } })

/-- INSERTION_REQUEST: step 1 of Table 15.5: with a good line and no warning the pass element closes; otherwise the insertion waits. While
the downstream is isolated the element stays open for the retries of R447. A head whose bypass had closed raises its line again. -/
def execInsertionRequest (lineOk : Bool) (s : State) : Host.Outcome State Fault Refusal :=
  .next (if s.phy.ins == .waitLine && !s.phy.powerFail then
    (if s.role == .head then { s with phy := { s.phy.raiseLine with ins := .out } }
     else if lineOk then { s with phy := { s.phy with ins := .waitGap, passClosed := !s.phy.isolated } }
     else s)
  else s)

/-- INSERTION_GAP_FOUND: steps 4 and 5 of Table 15.5: the bypass opens and the repeater goes live. -/
def execInsertionGapFound (s : State) : Host.Outcome State Fault Refusal :=
  .next (if s.phy.ins == .waitGap && !s.phy.powerFail then
    countInsertion { s with phy := { s.phy with ins := .inserted, bypassClosed := false, repeater := true, dir := none } }
  else s)

/-- LNK and the link interface domain reset; the counters stay, and the insertion follows as soon as LNK is released (Table 17.4, R442,
R451). -/
def resetLink (s : State) : State :=
  let p := { s.phy with dir := none, tail := false, tailNext := none, isolated := false, inverted := false, injector := false, retrying := false,
                        retries := 0 }
  { s with lnk := { Lnk.reset with on := s.lnk.on, address := s.lnk.address },
           phy := if s.linkWanted then p.wanted s.role else p }

/-- The drivers turn off, a head's injector opens, and the bypass closes, which joins the downstream again; the pass element follows 50 µs
later (Table 15.6, R428). An insertion that is wanted waits for its request. -/
def closeBypass (s : State) : State :=
  let was := s.phy.ins == .inserted
  let ins := if s.phy.passClosed then .removing else if s.linkWanted && s.role != .standAlone then .waitLine else .out
  let s := { s with phy := { s.phy with ins := ins, bypassClosed := true, repeater := false, dir := none, isolated := false, tailNext := none,
                                        tail := s.phy.tailNext.getD s.phy.tail, injector := false, retrying := false } }
  when was (raise 0x0801 (arg 0)) s

/-- REMOVAL: the bypass closes; a BLOCK RESET naming LNK that waits is asserted with it (R442, R445). -/
def execRemoval (s : State) : Host.Outcome State Fault Refusal :=
  .next (let s' := closeBypass s
    if s.lnk.resetAfter = some 7 then resetLink s' else s')

/-- REMOVAL_PASS_OPEN: step 3 of Table 15.6; a wanted insertion begins again (R442). -/
def execRemovalPassOpen (s : State) : Host.Outcome State Fault Refusal :=
  .next (if s.phy.ins == .removing then
    { s with phy := { s.phy with ins := if s.linkWanted && s.role == .member then .waitLine else .out, passClosed := false } }
  else s)

/-- LDIE_SUPPLY_LOSS: the bypass closes as its drive fails, and the pass element, or a head's injector, opens with it (R445, Table
15.4); VHOLD has run out (R61). -/
def execLdieSupplyLoss (s : State) : Host.Outcome State Fault Refusal :=
  .next (let s' := closeBypass { s with phy := { s.phy with passClosed := false } }
    { s' with phy := { s'.phy with tail := false, holdUp := false } })

/-- A change of the tail flag is applied; the flag stays set while the downstream is isolated (R446). -/
def Phy.applyTail (p : Phy) (tail : Bool) : Phy := { p with tail := tail || p.isolated, tailNext := none }

/-- TAIL_FLAG_CHANGE: the flag follows the measured current: at once on an idle pair, and otherwise in the next idle gap of 6 bit times
(R446, Table 15.10). -/
def execTailFlagChange (tail : Bool) (s : State) : Host.Outcome State Fault Refusal :=
  .next { s with phy := if s.phy.dir.isNone then s.phy.applyTail tail else { s.phy with tailNext := some tail } }

/-- DOWNSTREAM_SHORT: the pass element opens and the downstream is isolated, logged once per episode (R447). -/
def execDownstreamShort (ld100 : BitVec 16) (s : State) : Host.Outcome State Fault Refusal :=
  .next (if s.phy.passClosed && !s.phy.isolated && s.phy.ins != .removing then
    raise 0x0802 (arg ld100.toNat)
      { s with phy := { s.phy with passClosed := false, isolated := true, tail := true, isolates := s.phy.isolates + 1 } }
  else s)

/-- ISOLATION_RETRY: the pass element closes for 2 ms, and stays closed when the short has gone (R447). -/
def execIsolationRetry (gone : Bool) (s : State) : Host.Outcome State Fault Refusal :=
  .next (if s.phy.isolated && gone then { s with phy := { s.phy with passClosed := true, isolated := false } } else s)

/-- HEAD_LINE_FAULT: at S13 the start fails; at run time the injector opens for 5 s (R426). -/
def execHeadLineFault (s : State) : Host.Outcome State Fault Refusal :=
  .next (if s.role == .head && s.phy.injector then
    (match s.start.phase with
     | .step 13 => startFails 13 0x7E s
     | _ => { s with phy := { s.phy with injector := false, retrying := true } })
  else s)

/-- HEAD_LINE_RETRY: after 5 s the head ramps the line again (R426). -/
def execHeadLineRetry (s : State) : Host.Outcome State Fault Refusal :=
  .next (if s.phy.retrying then
    { s with phy := { s.phy with injector := true, retrying := false, retries := s.phy.retries + 1 } }
  else s)

/-- LINE_RAMP_COMPLETE: the head's line is up: S13 passes, and a fault episode is logged with its retries (R425, R426). -/
def execLineRampComplete (s : State) : Host.Outcome State Fault Refusal :=
  .next (if s.role == .head && s.phy.injector then
    let n := s.phy.retries
    let was := s.phy.ins == .inserted
    let s := { s with phy := { s.phy with ins := .inserted, bypassClosed := false, retries := 0 } }
    let s := when (n != 0) (raise 0x0803 (arg (holdAt 65535 n))) s
    if was then s else countInsertion s
  else s)

/-- REPEATER_DIRECTION_TAKEN: after idle the repeater takes the port that crosses its hysteresis, LU over LD (R438, Table 15.10). -/
def execRepeaterDirectionTaken (lu ld : Bool) (s : State) : Host.Outcome State Fault Refusal :=
  .next (if s.phy.repeater && s.phy.dir.isNone then
    { s with phy := { s.phy with dir := if lu then some .lu else if ld then some .ld else none } }
  else s)

/-- REPEATER_IDLE_RELEASE: the repeating port has been idle for 6 bit times (R438), the gap in which a waiting change of the tail flag is
applied (R446). -/
def execRepeaterIdleRelease (s : State) : Host.Outcome State Fault Refusal :=
  .next (let p := { s.phy with dir := none }
    { s with phy := match p.tailNext with
      | some t => p.applyTail t
      | none => p })

end Sys2Proof.Machine
end

