-- ==== Sys2Proof/Machine/Resets.lean ====
section
/-!
DEFINITION. The commands that reset the device or move a start on: supplies, RESET_N, the watchdog, ordered restarts, time limits and
delays (R57, R128 to R135, R145, R153, R159, R496); and MEMC's completions, one of which may end in an ordered restart.
-/
namespace Sys2Proof.Machine

/-- The cause of the start to come: a backup power-on that no start has followed yet stays the cause. -/
def State.pendingCause (s : State) (c : BitVec 3) : BitVec 3 :=
  match s.start.phase with
  | .inReset => if s.start.cause = 0 then 0 else c
  | .step _ | .delay | .basalt | .factory | .running => c

/-- MAIN_POWER_ON: PWRON falls and the main power-on reset acts (R129, Table 5.1). -/
def execMainPowerOn (s : State) : Host.Outcome State Fault Refusal :=
  .next (let c := s.pendingCause 1
    let t := resetMain s
    { t with start := { t.start with cause := c }, power := { t.power with vbatGood := false, vbat27 := false, pwron := false } })

/-- PWRON is low because of OFF: in OFF, and from the edge E of the entry to it. -/
def State.poweredOff (s : State) : Bool := s.power.state == .off || s.power.trans == .lossWindow .off

/-- PWRON_HIGH: VBAT is back at 2.70 V and the backup domain drives PWRON high, but in OFF (R129), where it does so for a wake source that
has been held since VBAT was lower (R388, R405; log entry 96). -/
def execPwronHigh (s : State) : Host.Outcome State Fault Refusal :=
  .next (let t := { s with power := { s.power with vbatGood := true, vbat27 := true,
                                                   pwron := s.power.pwron || (s.bkd.alive && !s.poweredOff) } }
    if s.bkd.alive && s.offSource then offWake t else t)

/-- CORE_POR_RELEASE: the core starts on the RC and the start controller begins S00 (R130). -/
def execCorePorRelease (i : StartIn) (s : State) : Host.Outcome State Fault Refusal :=
  .next (if s.start.phase == .inReset && s.power.pwron && s.power.vbatGood && s.bkd.alive && !s.power.resetLow then
    runStart s.start.cause i s
  else s)

/-- VCORE_BROWN_OUT: while the threshold is armed the core is reset with the reach of Table 5.1 (R415). -/
def execVcoreBrownOut (s : State) : Host.Outcome State Fault Refusal :=
  .next (if s.prq.bor.isSome then resetCore (s.pendingCause 2) s else s)

/-- RESET_N takes effect: the reset holds while the pad is low. In OFF it raises PWRON; the core domain was off, so that the Flint
banks hold nothing for S11's check (R57, R388, R404, R409). -/
def takeResetN (s : State) : State :=
  let c := s.pendingCause 3
  let off := s.poweredOff
  let t := resetCore c s
  let t := if off then flintClear t else t
  { t with power := { t.power with resetLow := true, pwron := t.power.pwron || off } }

/-- RESET_N_ASSERTED: a pulse of 10 µs or more acts, a shorter one than 1 µs is ignored, and one between may act; without VIO, or with
VBAT below 2.70 V or on its way back to it, none has effect (R57; that this holds while PWRON is still high too is DEDUCED, log entry
94). -/
def execResetNAsserted (w : PulseWidth) (p : PinSupply) (s : State) : Host.Outcome State Fault Refusal :=
  .next (if !p.vio || p.vbatMv < 2700 || !s.power.vbatGood then s
  else
    match w with
    | .below1us => s
    | .atLeast10us => takeResetN s
    | .from1to10us => if Config.resetPulseTakes s.free then takeResetN s.spend else s.spend)

/-- RESET_N_RELEASED: the start with reset_cause 3 begins (R57). -/
def execResetNReleased (i : StartIn) (s : State) : Host.Outcome State Fault Refusal :=
  .next (if s.power.resetLow then
    (if s.power.pwron && s.power.vbatGood && s.bkd.alive && s.start.phase == .inReset then runStart s.start.cause i s
     else { s with power := { s.power with resetLow := false } })
  else s)

/-- The start step in progress before S12. -/
def State.earlyStep (s : State) : Option Nat :=
  match s.start.phase with
  | .step n => if n < 12 then some n else none
  | .inReset | .delay | .basalt | .factory | .running => none

/-- The management core restarted from code SRAM; a session closes, its vote falls, and what it kept between ticks is lost but for
the watchdog's own record (Table 5.1, R511). -/
def restartHmc (s : State) : State :=
  let s := closeSession 1 0 s
  voteFor .hmc 2 { s with hmc := { s.hmc.cleared with on := true, tickS := s.hmc.tickS, dieAtCal := s.hmc.dieAtCal } }

/-- Watchdog resets of the last 3600 device seconds with one at `now`. -/
def recentDogs (now : BitVec 32) (xs : List (BitVec 32)) : List (BitVec 32) :=
  xs.filter (fun t => decide ((now - t).toNat ≤ 3600)) ++ [now]

/-- WATCHDOG_RESET: the count of the watchdog has reached 65 536 (log entry 11). Before S12 the step in progress fails; otherwise the
management core restarts, and the third reset within 3600 s escalates (Table 5.1, R149, R496). Every reset is logged: an escalation at once,
since the reset takes the core away, the others at the next tick. -/
def execWatchdogReset (s : State) : Host.Outcome State Fault Refusal :=
  .next (if s.dogRuns then
    let ds := recentDogs s.now s.hmc.dogs
    match s.earlyStep with
    | some n => startFails n 0xFD { s with hmc := { s.hmc with dogs := ds, dogLog := s.hmc.dogLog + 1 } }
    | none =>
      if 3 ≤ ds.length then resetCore 5 (raise 0x0903 (arg ds.length) { s with hmc := { s.hmc with dogs := ds } })
      else restartHmc { s with hmc := { s.hmc with dogs := ds, dogLog := s.hmc.dogLog + 1 } }
  else s)

/-! ## Ordered restart (R132, R163, Table 5.8) -/

/-- The registers that the Flint banks hold, ready to be saved at the exit from Basalt mode: the save area's position is found, and the
snapshot gives the save its registers (R132, log entry 34). -/
def basaltSave (s : State) : State :=
  if s.mem.usable && s.ee.banksOk then saveNow 2 (basaltSnapshot { s with save := s.mem.findSaves s.save }) else s

/-- An ordered restart: the save in progress ends, one of kind 2 is made, and the core is reset; Basalt mode is left (R163). -/
def orderedRestart (s : State) : State :=
  if s.inBasalt then
    let s := writeLedger (fun l => { l with basalt := false, failCount := 0 })
      (dropBasaltAlarm { s with start := { s.start with owed := true } })
    resetCore 4 (writeHeld (raise 0x0A04 (arg 0) (basaltSave s)))
  else resetCore 4 (saveNow 2 s)

/-- A commit that has passed restarts the device once its ACK has left (Table 17.5 step 5); an entry that waits for MEMC goes on
(Table 14.4 step 1). -/
def afterMem (s : State) : State := if s.lnk.resetAfter = some 0 then orderedRestart s else entryGoesOn s

/-- MEMORY_OPERATION_COMPLETE: the operation in progress ends and its read-back decides (R107, R125). -/
def execMemoryOperationComplete (s : State) : Host.Outcome State Fault Refusal := .next (afterMem (finishMem true s))

/-- MEMORY_OPERATION_TIMEOUT: the operation in progress is over its time limit, and counts as a failed read-back (R107). -/
def execMemoryOperationTimeout (s : State) : Host.Outcome State Fault Refusal := .next (afterMem (finishMem false s))

/-! ## Limits -/

/-- AG reset: the result is cleared, and a sweep in progress ends without one (Table 10.3); a sweep whose analysis ran was complete and gives
no valid result, with its event (R311, R312). -/
def clearAg (s : State) : State :=
  let t := if s.ag.analysing then logNoResult (voteFor .ag 2 s) else s
  { t with ag := { Ag.reset with outOfService := s.ag.outOfService, noResult := s.inSweep, abandoned := s.inSweep,
                                 lastInvalid := s.ag.analysing } }

/-- AG stays in reset: sweeps go out of service (R313, R507). -/
def agOut (s : State) : State :=
  let s := clearAg s
  { s with start := { s.start with agOut := true }, ag := { s.ag with outOfService := true }, seq := { s.seq with sweepDue := false } }

/-- CLOCK_READY_TIMEOUT: a block stays in reset; the failure follows the S11 rules (R135, R507). In Basalt mode, with fail_count at 3, no
restart follows (Table 5.1): the failure is recorded, and LNK serves no more. AG's own event goes before the start controller's (R31). -/
def execClockReadyTimeout (id : Byte) (s : State) : Host.Outcome State Fault Refusal :=
  .next (if id = 0 || 0x0A < id.toNat then s
  else
    let log := raise 0x0A0D (arg id.toNat) s
    match s.start.phase with
    | .step 11 => s11Timeout id log
    | .step _ | .running =>
      if id = 6 then tryPark (raise 0x0A0D (arg 6) (agOut s))
      else if id = 7 && s.role == .standAlone then log
      else startFails 11 0x70 log
    | .basalt =>
      if id = 7 && s.role != .standAlone then recordOnly 11 0x70 { log with lnk := { Lnk.reset with address := s.lnk.address } }
      else log
    | .inReset | .delay | .factory => s)

/-- The reason with which S13 fails: a member by where its insertion stands, a head by its line (Table 5.5, R443). -/
def State.reasonS13 (s : State) : Byte :=
  if s.role = .head then 0x7E else if s.phy.ins = .waitGap then 0x7C else 0x7D

/-- STEP_TIME_LIMIT: the step in progress has reached its limit (Table 5.5); where the table names no reason for that, the reason is a
free value (log entry 5). -/
def execStepTimeLimit (c : RefCheck) (s : State) : Host.Outcome State Fault Refusal :=
  .next (match s.start.phase, s.start.input with
    | .step n, some i =>
      let i := { i with hang := none }
      let r := Config.timeLimitReason n s.free
      if n = 0 then s
      else if n = 1 then earlyFails 1 r id (fallS01 i) s.spend
      else if n = 2 then earlyFails 2 r id (fallS02 i) s.spend
      else if n = 3 then earlyFails 3 r id (fallS03 i) s.spend
      else if n = 4 then startFails 4 0x30 s
      else if n = 5 then degradeS05 i c s
      else if n = 6 then bankTimesOut i .a s
      else if n = 7 then bankTimesOut i .b s
      else if n = 11 then startFails 11 0x70 s
      else if n = 12 then startFails 12 0x78 s
      else if n = 13 then startFails 13 s.reasonS13 s
      else startFails n r s.spend
    | _, _ => s)

/-- RESTART_DELAY_EXPIRY: the start failure restart begins (R153). -/
def execRestartDelayExpiry (i : StartIn) (s : State) : Host.Outcome State Fault Refusal :=
  .next (if s.start.phase == .delay && s.power.pwron && !s.power.resetLow then runStart 6 i s else s)

/-- BASALT_REFERENCE_LIMIT: in Basalt mode the reference has not been declared within 50 ms: it is logged as absent, and the check
goes on (R159). -/
def execBasaltReferenceLimit (c : RefCheck) (s : State) : Host.Outcome State Fault Refusal :=
  .next (if s.inBasalt && s.clk.refOn && !s.clk.declared && !s.clk.absent then
    raiseFlag flagRefLost 0x0204 (arg (refReason c)) { s with clk := { s.clk with absent := true } }
  else s)

end Sys2Proof.Machine
end

