-- ==== Sys2Proof/Machine/Txn.lean ====
section
/-!
DEFINITION. The transactions that a device serves (chapter 16, R456 to R463, R479 to R485; chapter 17, R504 to R517): whether a frame
reaches it, whether the request is legal, its effect, and its answer.
-/
namespace Sys2Proof.Machine

/-! ## Reception (R456, R459, R463) -/

/-- LNK receives frames on LU: a member while it is inserted, a head with a Watal upstream port always; LNK is out of reset and its
clock runs. -/
def State.hears (s : State) : Bool :=
  s.lnk.on && s.clk.core &&
  (match s.role with
   | .standAlone => false
   | .member => s.phy.ins == .inserted
   | .head => s.watalHead)

/-- The address field selects the device; at 1022 it serves ASSIGN only, and takes part in trains (R456, R459, R469). -/
def State.isFor (s : State) (t : BitVec 6) (f : Frame) : Bool :=
  if isBroadcast f then s.lnk.address != addrUnassigned || isTrain t
  else f.dest == s.lnk.address && (f.dest != addrUnassigned || t == typeAssign)

/-- The polarity that the frame's delimiter showed (R435). -/
def takePolarity (f : Frame) (s : State) : State := { s with phy := { s.phy with inverted := f.inverted } }

/-- A frame of a type that is not served: discarded with a bad header or a length above 240, and otherwise answered, at the device's own
address, with NAK 0x01 for its frame check or 0x02 for its type (R456). A failed check is no request that was answered, so that its NAK is
not kept for a repetition (R457). -/
def judge (t : BitVec 6) (f : Frame) (s : State) : State :=
  if !headerGood t f || 240 < f.payload.length || !s.isFor t f || isBroadcast f then s
  else if !checkGood t f then
    (match (Reply.nak nakCrc 0).frame s.lnk.address t f with
     | some x => sendLu x s
     | none => s)
  else if !servedTypes.contains t then answer t f (.nak nakType 0) s
  else s

/-- A head waits for a response or a train (R460, R463). -/
def Head.outstanding (h : Head) : Bool := h.req.isSome || h.train.isSome

/-- A power-fail save runs: steps 1 to 3 of Table 12.6 (R482). -/
def State.saveRuns (s : State) : Bool :=
  (s.seq.pfStop && s.seq.phase != .none) || s.mem.busy.any (fun r => r.rank == 0) || s.mem.queue.any (fun r => r.rank == 0)

/-- The request repeats the last unicast request that was answered (R457). -/
def State.repeated (s : State) (t : BitVec 6) (f : Frame) : Option Sent :=
  match s.lnk.cache with
  | some c => if c.src == f.src && c.type == t && c.seq == f.seq then some c.sent else none
  | none => none

/-- Checks that come before a type's own: busy, Basalt mode, and the payload's length (R480, R482). A block or a commit whose answer waits for
MEMC makes the device busy as an IMAGE COMMIT check does (DESIGN CHOICE for the block, log entry 79). -/
def State.refusal (s : State) (t : BitVec 6) (f : Frame) : Option Byte :=
  if (s.saveRuns || s.mem.answerWaits) && !servedBusy t then some nakBusy
  else if s.inBasalt && !servedInBasalt t then some nakState
  else if !lengthFits t f.payload then some nakArgument
  else none

/-- LNK votes RUN while a transaction needs the management core, and so does the management core while it works on it (Table 14.2, R494);
both votes end with it, but for what MEMC still does. -/
def withVote (t : BitVec 6) (g : State → Reply × State) (s : State) : Reply × State :=
  if servedByLnk t then g s
  else
    let r := g (when s.hmc.on (voteFor .hmc 0) (voteFor .lnk 0 s))
    (r.1, memVote (voteFor .lnk 2 r.2))

/-- One request of a type: whether it is heard, passes its checks, is a repetition, refused, or served by the function given; and what was
answered. -/
def serve (t : BitVec 6) (g : State → Reply × State) (f : Frame) (s : State) : Reply × State :=
  if !s.hears then (.silent, s)
  else
    let s := takePolarity f s
    if !sound t f then (.silent, judge t f s)
    else if !s.isFor t f || (isBroadcast f && !servedBroadcast t) then (.silent, s)
    else
      match (if isBroadcast f then none else s.repeated t f) with
      | some x => (.silent, sendLu x s)
      | none =>
        if s.head.outstanding && !s.inBasalt then (.silent, answer t f (.nak nakBusy 0) s)
        else if !s.hmc.on && !s.inBasalt && !servedByLnk t then (.silent, s)
        else
          match s.refusal t f with
          | some r => (.silent, answer t f (.nak r 0) s)
          | none =>
            let r := withVote t g s
            (r.1, answer t f r.1 r.2)

/-- A request from upstream to everyone goes on downstream as well (R463). -/
def relayBroadcast (t : BitVec 6) (f : Frame) (s : State) : State :=
  if isBroadcast f && sound t f && s.watalHead && s.hears && !s.inBasalt && !s.head.outstanding then
    sendLd (.frame f.dest f.src t f.seq f.payload) s
  else s

/-- An argument that does not fit. -/
def badArgument (s : State) : Reply × State := (.nak nakArgument 0, s)

/-- Not in this state. -/
def wrongState (s : State) : Reply × State := (.nak nakState 0, s)

/-! ## Frames that are not served (R456) -/

/-- A Watal receiver of the device is in operation: on LU, or on LD alone in a head with an M-Bus upstream port. -/
def State.receives (s : State) : Bool := s.hears || (s.lnk.on && s.clk.core && s.mbusHead)

/-- UNSERVED_FRAME: a framing failure on any receiver is counted; any other frame on LU is judged. -/
def execUnservedFrame (w : FrameFault) (f : Frame) (s : State) : Host.Outcome State Fault Refusal :=
  .next (match w with
    | .framing => if s.receives then { s with phy := { s.phy with violations := s.phy.violations + 1 } } else s
    | .judged t => if s.hears then judge t f (takePolarity f s) else s)

/-! ## Reads (R480, R484, R485) -/

/-- PING. -/
def execPing (f : Frame) (s : State) : Host.Outcome State Fault Refusal :=
  .next (serve typePing (fun s => (.ack (pingPayload s.snap), s)) f s).2

/-- IDENTIFY. -/
def execIdentify (f : Frame) (s : State) : Host.Outcome State Fault Refusal :=
  .next (serve typeIdentify (fun s => (.ack (identifyPayload s), s)) f s).2

/-- READ. -/
def serveRead (p : List Byte) (s : State) : Reply × State :=
  match readPayload s.snap p with
  | some d => (.ack d, s)
  | none => badArgument s

def execRead (f : Frame) (s : State) : Host.Outcome State Fault Refusal := .next (serve typeRead (serveRead f.payload) f s).2

/-- STATUS. -/
def execStatus (f : Frame) (s : State) : Host.Outcome State Fault Refusal :=
  .next (serve typeStatus (fun s => (.ack (statusPayload s), s)) f s).2

/-- CLEAR (R479): the flags whose generation matches, and the mask afterwards. -/
def serveClear (p : List Byte) (s : State) : Reply × State :=
  let r := clearFlags (BitVec.ofNat 16 (fieldN p 0 2)) (List.range 16) (p.drop 2) s
  (.ack (beN 2 r.2 ++ be 2 (latchedMask r.1.flags)), r.1)

def execClear (f : Frame) (s : State) : Host.Outcome State Fault Refusal := .next (serve typeClear (serveClear f.payload) f s).2

/-- TIME READ. -/
def execTimeRead (f : Frame) (s : State) : Host.Outcome State Fault Refusal :=
  .next (serve typeTimeRead (fun s => (.ack (timePayload s), s)) f s).2

/-! ## Settings -/

/-- ASSIGN (R162, R475): only the device whose UID is named acts and answers; the address is stored and used at once. A head in normal
operation keeps address 0 (R88). -/
def serveAssign (p : List Byte) (s : State) : Reply × State :=
  let a := addressAt p 8
  if fieldN p 0 8 ≠ s.fuse.uid.toNat then (.silent, s)
  else if !memberAddress a then badArgument s
  else
    let s := raise 0x0809 (arg a.toNat) (request (.address a) s)
    (.ack [], if s.role == .head && !s.inBasalt then s else { s with lnk := { s.lnk with address := a } })

def execAssign (f : Frame) (s : State) : Host.Outcome State Fault Refusal := .next (serve typeAssign (serveAssign f.payload) f s).2

/-- TIME SET (R268, R376, R377): committed, or deferred while a sweep runs; a later one replaces a deferred one. -/
def serveTimeSet (p : List Byte) (s : State) : Reply × State :=
  let c := calOf p
  if !c.ok then badArgument s
  else if s.inSweep || s.seq.deferred.isSome then (.ack [1], { s with seq := { s.seq with deferred := some c } })
  else (.ack [0], request (.time c) s)

def execTimeSet (f : Frame) (s : State) : Host.Outcome State Fault Refusal :=
  .next (relayBroadcast typeTimeSet f (serve typeTimeSet (serveTimeSet f.payload) f s).2)

/-- ALARM SET (R383, R386). -/
def serveAlarmSet (p : List Byte) (s : State) : Reply × State :=
  if s.bkd.time.osf then wrongState s
  else
    match alarmOf p with
    | some a => (.ack [], request (.alarm a true) s)
    | none => badArgument s

def execAlarmSet (f : Frame) (s : State) : Host.Outcome State Fault Refusal :=
  .next (serve typeAlarmSet (serveAlarmSet f.payload) f s).2

/-- STATE (R397): a target above 4, or above 2 for a head, is refused. -/
def serveState (p : List Byte) (s : State) : Reply × State :=
  let n := fieldN p 0 1
  if 4 < n || (2 < n && s.role == .head) then badArgument s else (.ack [], stateTarget (BitVec.ofNat 3 n) s)

def execState (f : Frame) (s : State) : Host.Outcome State Fault Refusal :=
  .next (relayBroadcast typeState f (serve typeState (serveState f.payload) f s).2)

/-! ## Block resets (R506, Table 17.4) -/

/-- The polarity locks of every path cleared, each that was set with its event (R196). -/
def clearLocks (s : State) : State := Idx3.all.foldl (fun t p => setLock p .dn none (setLock p .up none t)) s

/-- AFE: gain, thresholds and locks as at a start; windows to acquisition. -/
def resetAfe (s : State) : State :=
  let s := clearLocks s
  startAfe { s with tiu := { s.tiu with paths := .const TiuPath.reset } }

/-- A gap job in progress ends without result. -/
def dropJob (s : State) : State := if s.seq.job.isSome then withdraw (abandonJob s) else s

/-- SEQ: parity 0, no pending gap job, a sweep abandoned (R267). -/
def resetSeq (s : State) : State :=
  let s := when s.inSweep abandonSweep (dropJob s)
  standDown { s with seq := { s.seq with parity := false, gainDue := false, tempDue := false, inlDue := false, sweepDue := false } }

/-- TIU: a job in progress ends without result (R323), and a direct test with BUSY and its event, for which the spec names no result (DESIGN
CHOICE, log entry 28); the self-test and a full calibration wait for the next launch. -/
def resetTiu (s : State) : State :=
  let s := when s.tiu.testing (endTest 4 0) (dropJob s)
  standDown { s with tiu := { s.tiu with paths := .const TiuPath.reset }, seq := { s.seq with preFull := true } }

/-- EE: what stands in the Flint banks is kept, and a pulse that is high ends. -/
def resetEe (s : State) : State := tryPark (eeVote { s with ee := { s.ee.retained with lastIntS := s.ee.lastIntS } })

/-- AG (Table 10.3). -/
def resetAg (s : State) : State := tryPark (clearAg s)

/-- A block reset asserted; those of the whole device, LNK and the ledger act in Basalt mode too. -/
def assertReset (id : Nat) (s : State) : State :=
  if id = 0 then orderedRestart s
  else if id = 1 then resetAfe s
  else if id = 2 then resetSeq s
  else if id = 3 then resetTiu s
  else if id = 4 then startFlow s   -- no state event, flag or cutoff count comes of it (log entry 28)
  else if id = 5 then resetEe s
  else if id = 6 then resetAg s
  else if id = 7 then { s with lnk := { s.lnk with resetAfter := some 7 } }
  else if id = 8 then restartHmc s
  else if id = 9 then
    let s := { s with mem := { s.mem with resetDue := true } }
    if s.mem.busy.isSome then s else memcReset s
  else editLedger (fun l => { l with altMask := 0 }) s

/-- The reset acts in Basalt mode. -/
def actsInBasalt (id : Nat) : Bool := id == 0 || id == 7 || id == 10

/-- The reset is asserted once its ACK has left, or waits for the snapshot or abandonment of the cycle in progress. -/
def takeReset (id : Nat) (s : State) : State :=
  if s.inBasalt && !actsInBasalt id then s
  else if within 1 5 id && (s.seq.phase != .none) then
    { s with seq := { s.seq with resets := s.seq.resets ++ [BitVec.ofNat 8 id] } }
  else assertReset id s

/-- BLOCK RESET: logged and acknowledged. -/
def serveBlockReset (p : List Byte) (s : State) : Reply × State :=
  let id := fieldN p 0 1
  if 10 < id then badArgument s else (.ack [], raise 0x080C (arg id) s)

/-- BLOCK_RESET: the ACK first, then the reset. -/
def execBlockReset (f : Frame) (s : State) : Host.Outcome State Fault Refusal :=
  .next (let r := serve typeBlockReset (serveBlockReset f.payload) f s
    if r.1.isAck then takeReset (fieldN f.payload 0 1) r.2 else r.2)

/-- The deferred resets as they are asserted together: in the order in which R31 grants what they raise, the TIU before the AFE, whose events
SEQ requests, SEQ, FE and EE. -/
def resetOrder (ids : List Byte) : List Byte := [3, 1, 2, 4, 5].filter ids.contains

/-- The resets that wait for the end of a cycle, once none is under way. -/
def assertDeferred (s : State) : State :=
  if s.seq.phase == .none then
    (resetOrder s.seq.resets).foldl (fun t id => assertReset id.toNat t) { s with seq := { s.seq with resets := [] } }
  else s

/-- BLOCK_RESET_ASSERT: the resets that wait for the end of a cycle, and the one of LNK, whose ACK has left LU: the bypass closes, and the
insertion follows (R442, R506, Table 17.4). -/
def execBlockResetAssert (s : State) : Host.Outcome State Fault Refusal :=
  .next (let t := assertDeferred s
    if t.lnk.resetAfter = some 7 then resetLink (closeBypass t) else t)

/-! ## Image sessions (R508 to R511) -/

/-- IMAGE OPEN: the session opens, and MEMC is asked for the erase of its first sector. -/
def serveImageOpen (p : List Byte) (s : State) : Reply × State :=
  if s.img.isSome then wrongState s
  else
    match openOf p with
    | none => badArgument s
    | some (fw, k, n) =>
      let i : ImgSession := { firmware := fw, bank := k, length := n, next := 0, header := [], erasing := true, eraseFailed := false,
                              lastBlock := none }
      (.ack [], requestMem (.imageErase i.base 0 true) (logSession i 0 0 { s with img := some i }))

def execImageOpen (f : Frame) (s : State) : Host.Outcome State Fault Refusal :=
  .next (serve typeImageOpen (serveImageOpen f.payload) f s).2

/-- IMAGE_ERASE_COMPLETE: the last sector of the session's erase is done, and what MEMC served before and between with it (R125). -/
def execImageEraseComplete (s : State) : Host.Outcome State Fault Refusal :=
  .next (match s.img with
    | some i => if i.erasing then afterMem (finishAll memDepth s) else s
    | none => s)

/-- The close after a failed erase, which is already logged; the bank has no header (R510). -/
def failErased (i : ImgSession) (s : State) : Reply × State :=
  (.nak nakImage 0x0B, { s with img := none, mem := s.mem.dropHeader i })

/-- A block at next_offset (Table 17.5 step 3): what lies below 0x40 goes to the buffer at once; the rest is MEMC's work, and the answer
waits for its read-back. -/
def takeBlock (i : ImgSession) (off : Nat) (d : List Byte) (f : Frame) (s : State) : Reply × State :=
  if (aboveHeader off d).2.isEmpty then (.ack (beN 4 (off + d.length)), { s with img := some (i.take off d) })
  else (.silent, requestMem (.imageBlock i.base off d f) s)

/-- IMAGE BLOCK (R509, Table 16.13). -/
def serveImageBlock (f : Frame) (s : State) : Reply × State :=
  let off := fieldN f.payload 0 4
  let d := f.payload.drop 4
  match s.img with
  | none => wrongState s
  | some i =>
    if i.erasing then (.nak nakBusy 0, s)
    else if i.eraseFailed then failErased i s
    else if i.lastBlock = some (off, d) then (.ack (beN 4 i.next), s)
    else if off ≠ i.next || i.length < off + d.length then badArgument s
    else takeBlock i off d f s

def execImageBlock (f : Frame) (s : State) : Host.Outcome State Fault Refusal :=
  .next (serve typeImageBlock (serveImageBlock f) f s).2

/-- The checks at commit: Table 4.6 over the bank with its header from the buffer, and the length of R510. -/
def State.checkCommit (s : State) (i : ImgSession) : Option Byte :=
  let b := i.header ++ (s.mem.bank i.firmware i.bank).drop 64
  let r := checkImage (s.checkIn i.firmware) b
  if r = some 0x0B || r = some 0x01 then r
  else if i.length ≠ imgBody b + 160 then some 0x02
  else r

/-- IMAGE COMMIT (Table 17.5 steps 4 and 5): an image that passes its checks has its header programmed by MEMC, and the answer waits for
that. -/
def serveImageCommit (f : Frame) (s : State) : Reply × State :=
  match s.img with
  | none => wrongState s
  | some i =>
    if i.eraseFailed then failErased i s
    else if i.next ≠ i.length then wrongState s
    else
      match s.checkCommit i with
      | some r => failSession i 4 r s
      | none => (.silent, requestMem (.imageHeader i.base i.header f) s)

def execImageCommit (f : Frame) (s : State) : Host.Outcome State Fault Refusal :=
  .next (serve typeImageCommit (serveImageCommit f) f s).2

/-- IMAGE ABORT. -/
def serveImageAbort (s : State) : Reply × State :=
  if s.img.isNone then wrongState s else (.ack [], closeSession 1 0 s)

def execImageAbort (f : Frame) (s : State) : Host.Outcome State Fault Refusal :=
  .next (serve typeImageAbort serveImageAbort f s).2

/-- IMAGE_SESSION_TIMEOUT: 60 s without a block (R511). -/
def execImageSessionTimeout (s : State) : Host.Outcome State Fault Refusal := .next (closeSession 2 0 s)

/-! ## LOG READ (R504) -/

/-- How far a sequence number lies behind the newest, modulo 2^32. -/
def behindBy (newest seq : Nat) : Nat := (newest + 2 ^ 32 - seq) % 2 ^ 32

/-- The positions of the log from the one after the newest record round to the newest. -/
def Mem.logOrder (m : Mem) (newest : Nat) : List Nat :=
  (List.range m.logSize).map (fun k => (newest + 1 + k) % m.logSize)

/-- The answer to a LOG READ: flags and records, from the oldest record held that is first_seq or newer. -/
def Mem.logRead (m : Mem) (first count : Nat) : Byte × List (List Byte) :=
  match (if m.usable then m.newestLog else none) with
  | none => (0, [])
  | some (p, r) =>
    let n := fieldN r 0 4
    let age := behindBy n first
    if 2 ^ 31 ≤ age then (0, [])
    else
      let held := (m.logOrder p).dropWhile (fun k => !logValid (m.logAt k))
      let oldest := behindBy n (fieldN (m.logAt (held.headD p)) 0 4)
      let from_ := held.dropWhile (fun k => !(logValid (m.logAt k) && decide (behindBy n (fieldN (m.logAt k) 0 4) ≤ age)))
      (if oldest < age then 0x80 else 0, (from_.take count).map m.logAt)

/-- LOG READ: what was asked of MEMC before it and the queue are written first. -/
def serveLogRead (p : List Byte) (s : State) : Reply × State :=
  let n := fieldN p 4 1
  if !within 1 14 n then badArgument s
  else
    let s := flushLog (finishAll memDepth s)
    let r := s.mem.logRead (fieldN p 0 4) n
    (.ack ([BitVec.ofNat 8 r.2.length, r.1] ++ r.2.flatten), s)

def execLogRead (f : Frame) (s : State) : Host.Outcome State Fault Refusal :=
  .next (serve typeLogRead (serveLogRead f.payload) f s).2

/-! ## The owner claim (R514 to R517) -/

/-- The eight words of owner_hash. -/
def hashWords (h : BitVec 256) : List (BitVec 32) := (List.range 8).map (fun k => h.extractLsb' (32 * (7 - k)) 32)

/-- Words after programming: each bit of the hash that takes; bits of `stuck` (0 the first bit of word 16) do not. -/
def burnWord (stuck : List Nat) (k : Nat) (old want : BitVec 32) : BitVec 32 :=
  old ||| BitVec.ofNat 32 ((List.range 32).foldl
    (fun n b => n + (if want.getLsbD b && !stuck.contains (32 * k + 31 - b) then 2 ^ b else 0)) 0)

/-- Words 16 to 23 after step 2 of Table 17.7. -/
def burnHash (stuck : List Nat) (ws : List (BitVec 32)) (h : BitVec 256) : List (BitVec 32) :=
  (List.zip (List.range 8) (hashWords h)).map (fun x => burnWord stuck x.1 (ws.getD (16 + x.1) 0) x.2)

/-- The first word that still differs. -/
def firstBad : Nat → List (BitVec 32) → List (BitVec 32) → Option Nat
  | k, x :: xs, y :: ys => if x = y then firstBad (k + 1) xs ys else some k
  | _, _, _ => none

/-- The owner row and the lock put in place. -/
def Fuse.burn (f : Fuse) (row : List (BitVec 32)) (lock : BitVec 32) (c : Claim) : Fuse :=
  let g := fun (ws : List (BitVec 32)) => ws.take 16 ++ row ++ [lock]
  { f with words := g f.words, shadow := g f.shadow, claim := c }

/-- A claim that stops: NAK 0x04, the last word programmed logged, the state incomplete (R516). -/
def claimStops (row : List (BitVec 32)) (lock : BitVec 32) (word : Nat) (s : State) : Reply × State :=
  (.nak nakBusy 0, raise 0x080B (arg (2 ^ 24 + word)) { s with fuse := s.fuse.burn row lock .incomplete })

/-- The claim record of a hash, with the CRC-8 of the hash's bytes in their order (R517; DEDUCED, log entry 75). -/
def ClaimRec.of (h : BitVec 256) : ClaimRec := { hash := h, crc := crc8 (be 32 h) }

/-- A record whose CRC-8 is that of its hash. -/
def ClaimRec.sound (r : ClaimRec) : Bool := crc8 (be 32 r.hash) == r.crc

/-- CLAIM (Tables 16.13, 17.7). -/
def serveClaim (stuck : List Nat) (lockReads : BitVec 3) (p : List Byte) (s : State) : Reply × State :=
  let h := BitVec.ofNat 256 (fieldN p 0 32)
  if s.fuse.claim = .claimed || (s.fuse.claim = .incomplete && (s.bkd.claimRec.filter ClaimRec.sound).map ClaimRec.hash ≠ some h) then
    (.nak nakAuthority 0, s)
  else if fieldN p 32 8 ≠ s.fuse.uid.toNat then badArgument s
  else
    let s := commitNow (.claim (some (ClaimRec.of h))) s
    let row := burnHash stuck s.fuse.words h
    let lock := s.fuse.words.getD 24 0
    match firstBad 16 row (hashWords h) with
    | some w => claimStops row lock w s
    | none =>
      let lock := lock ||| lockReads.setWidth 32
      if ones (lock.extractLsb' 0 3) < 2 then claimStops row lock 24 s
      else
        let s := commitNow (.claim none) { s with fuse := s.fuse.burn row lock .claimed }
        (.ack [], raise 0x080B (arg 24) s)

def execClaim (f : Frame) (stuck : List Nat) (lockReads : BitVec 3) (s : State) : Host.Outcome State Fault Refusal :=
  .next (serve typeClaim (serveClaim stuck lockReads f.payload) f s).2

/-- RESPONSE_CACHE_EXPIRY: after 2 s the kept response lapses (R457). -/
def execResponseCacheExpiry (s : State) : Host.Outcome State Fault Refusal := .next { s with lnk := { s.lnk with cache := none } }

end Sys2Proof.Machine
end

