-- ==== Sys2Proof/Machine/Train.lean ====
section
/-!
DEFINITION. Trains at a member (R464 to R474): arming, the units of SWEEP, ENUMERATE and NOTICE WINDOW, and the turn.
-/
namespace Sys2Proof.Machine

/-! ## Units (Tables 16.6, 16.7, 16.9) -/

/-- The kind of a record: normal, join, Basalt (Table 16.7). -/
def State.recordKind (s : State) : BitVec 2 := if s.inBasalt then 2 else if s.lnk.address == addrUnassigned then 1 else 0

/-- The snapshot latched for the train (R28, R464). -/
def State.trainSnap (s : State) : Snapshot := s.lnk.latched.getD s.snap

/-- The snapshot was taken more than 5 device seconds before the latch. -/
def State.stale (s : State) : Bool := decide (5 < (s.lnk.latchedS - s.trainSnap.time.deviceS).toNat)

/-- Table 16.7. -/
def addrWord (s : State) (hop : BitVec 10) (turned forced : Bool) (tag : BitVec 4) : BitVec 32 :=
  s.lnk.address ++ hop ++ s.recordKind ++ BitVec.ofBool turned ++ BitVec.ofBool forced ++ BitVec.ofBool s.trainSnap.sweepCycle ++
    BitVec.ofBool s.stale ++ (0 : BitVec 2) ++ tag

/-- Bytes 0x06 to 0x16 of a normal record (R347, Table 16.6). -/
def measures (x : Snapshot) : List Byte :=
  beI 4 (roundDiv (x.flowNlS * 9) 25000) ++ beN 3 (x.volumeUl.toNat / 1000000) ++ beN 3 (x.heatMwh.toNat / 1000) ++
    beN 3 (x.coldMwh.toNat / 1000) ++ beI 2 (roundDiv x.supply 100) ++ beI 2 (roundDiv x.ret 100)

/-- The SWEEP record (R471, R472). -/
def sweepRecord (s : State) (w : BitVec 32) : List Byte :=
  let x := s.trainSnap
  let k := s.recordKind
  let status := if k = 2 then basaltStatus x.status else x.status
  let mid := if k = 2 then s.bkd.ledger.bytes ++ zeros 5 else if k = 1 then be 8 s.fuse.uid ++ zeros 9 else measures x
  sealed (be 4 w ++ be 2 status ++ mid ++ be 4 x.time.deviceS ++ be 2 (x.eventSeq.setWidth 16) ++ [0])

/-- The identity unit (R473). -/
def identityUnit (s : State) (w : BitVec 32) : List Byte := sealed (be 4 w ++ be 8 s.fuse.uid ++ be 2 s.trainSnap.status)

/-- The notice unit (R473). -/
def noticeUnit (s : State) (mask : BitVec 16) : List Byte :=
  let x := s.trainSnap
  sealed (be 2 (addressWord s.lnk.address) ++ be 2 (latchedMask x.flags &&& mask) ++ be 2 (x.eventSeq.setWidth 16))

/-- The unit of an armed train. -/
def State.unit (s : State) (t : Train) (hop : BitVec 10) (turned forced : Bool) : List Byte :=
  match t.kind with
  | .sweep => sweepRecord s (addrWord s hop turned forced t.tag)
  | .enumerate => identityUnit s (addrWord s hop turned forced t.tag)
  | .notice => noticeUnit s t.mask

/-- A notice is called for: a flag in the mask is set with a generation that was not noticed yet (R474). -/
def State.noticeDue (s : State) (mask : BitVec 16) : Bool :=
  (List.range 16).any (fun k =>
    let f := s.trainSnap.flags.getD k ⟨false, 0, 0⟩
    mask.getLsbD k && f.set && s.lnk.notice.getD k none != some f.gen)

/-- The generations of the flags in the mask, recorded at a notice (R474). -/
def noticed (mask : BitVec 16) (fs : List LFlag) (old : List (Option Byte)) : List (Option Byte) :=
  (List.range 16).map (fun k => if mask.getLsbD k then some (fs.getD k ⟨false, 0, 0⟩).gen else old.getD k none)

/-- The member writes its unit and disarms. -/
def sendUnit (t : Train) (hop : BitVec 10) (turned forced : Bool) (s : State) : State :=
  let u := s.unit t hop turned forced
  let n := if t.kind = .notice then noticed t.mask s.trainSnap.flags s.lnk.notice else s.lnk.notice
  sendLu (.trainUnit u) { s with lnk := { s.lnk with armed := none, latched := none, notice := n } }

/-! ## Arming (R464) -/

/-- A train request is received with good checks: a member arms; a head with a Watal upstream port forwards it and expects the train. A
unicast one, or one whose length does not fit, is discarded (R464, R480). -/
def armTrain (k : TrainKind) (ty : BitVec 6) (f : Frame) (s : State) : State :=
  if !s.hears then s
  else
    let s := takePolarity f s
    if !sound ty f then judge ty f s
    else if !s.isFor ty f || !isBroadcast f || !lengthFits ty f.payload then s
    else
      let t : Train := { kind := k, turn := addressAt f.payload 0, mask := BitVec.ofNat 16 (fieldN f.payload 2 2),
                         tag := f.seq.setWidth 4 }
      let armed := { s with lnk := { s.lnk with armed := some t, latched := some s.snap, latchedS := s.now } }
      if s.watalHead && !s.inBasalt then
        (if s.head.outstanding then s
         else
          let u := relayBroadcast ty f armed
          { u with head := { u.head with train := some { kind := k, units := [], retried := false } } })
      else armed

/-- SWEEP. -/
def execSweep (f : Frame) (s : State) : Host.Outcome State Fault Refusal := .next (armTrain .sweep typeSweep f s)

/-- ENUMERATE. -/
def execEnumerate (f : Frame) (s : State) : Host.Outcome State Fault Refusal := .next (armTrain .enumerate typeEnumerate f s)

/-- NOTICE_WINDOW. -/
def execNoticeWindow (f : Frame) (s : State) : Host.Outcome State Fault Refusal := .next (armTrain .notice typeNotice f s)

/-! ## The turn and the append (R465, R467, R469) -/

/-- The device takes part in trains as a member: a member, or a head in Basalt mode (Table 5.7). -/
def State.asMember (s : State) : Bool := s.hears && (s.role == .member || s.inBasalt)

/-- The turner of the armed train: the tail for turn_addr 1023, else the member named; never a parked one (R465). -/
def State.turns (s : State) (t : Train) : Bool :=
  s.asMember && s.power.parked.isNone && (if t.turn = addrBroadcast then s.phy.tail else s.lnk.address == t.turn)

/-- TURN_UNIT_SEND: 8 bit times after the request the turner sends its unit, a notice in any case. -/
def execTurnUnitSend (s : State) : Host.Outcome State Fault Refusal :=
  .next (match s.lnk.armed with
    | some t => if s.turns t then sendUnit t 0 true (t.turn != addrBroadcast) s else s
    | none => s)

/-- An armed member contributes a unit that it appends; a parked one contributes nothing (Table 16.6a). -/
def State.appends (s : State) (t : Train) : Bool :=
  s.asMember && s.power.parked.isNone && (t.kind != .notice || (s.recordKind == 0 && s.noticeDue t.mask))

/-- APPEND_UNIT: behind at least one unit, LD undriven for a bit time (R467). -/
def execAppendUnit (hop : BitVec 10) (s : State) : Host.Outcome State Fault Refusal :=
  .next (match s.lnk.armed with
    | some t => if s.appends t && hop != 0 then sendUnit t hop false false s else s
    | none => s)

/-- TRAIN_DISARM_TIMEOUT: no unit within 2 ms, or 2 s after arming (R467). -/
def execTrainDisarmTimeout (s : State) : Host.Outcome State Fault Refusal :=
  .next (if s.asMember then { s with lnk := { s.lnk with armed := none, latched := none } } else s)

end Sys2Proof.Machine
end

