-- ==== Sys2Proof/Machine/Head.lean ====
section
/-!
DEFINITION. The chain head (R460 to R463, R468, R470, R475 to R477, R487): forwarding and relaying at a Watal upstream port; requests,
trains, parked members and the member table of a head with an M-Bus upstream port.
-/
namespace Sys2Proof.Machine

/-! ## A Watal upstream port (R463, R470) -/

/-- A Watal-upstream head in operation; in Basalt mode it sends nothing downstream (Table 5.7). -/
def State.bridges (s : State) : Bool := s.watalHead && s.hears && !s.inBasalt

/-- The request goes on downstream: to a member, or an ASSIGN to 1022. -/
def forwards (t : BitVec 6) (d : BitVec 10) : Bool := memberAddress d || (d == addrUnassigned && t == typeAssign)

/-- FORWARDED_REQUEST: one with good checks is re-framed downstream, or gets NAK 0x04 while another is outstanding. -/
def execForwardedRequest (t : BitVec 6) (f : Frame) (s : State) : Host.Outcome State Fault Refusal :=
  .next (if s.bridges then
    let s := takePolarity f s
    if !sound t f || !forwards t f.dest then s
    else if s.head.outstanding then
      (match (Reply.nak nakBusy 0).frame s.lnk.address t f with
       | some x => sendLu x s
       | none => s)
    else
      let r : HeadReq := { dest := f.dest, type := t, seq := f.seq, payload := f.payload, tries := 1, upstream := some f.src,
                           woken := false, garbled := false }
      sendLd (.frame f.dest f.src t f.seq f.payload) { s with head := { s.head with req := some r } }
  else s)

/-- The head's own unit, behind the units carried, ends the train (R470). -/
def endRelay (h : HeadTrain) (s : State) : State :=
  let s := { s with head := { s.head with train := none } }
  match s.lnk.armed with
  | some t => sendUnit t (BitVec.ofNat 10 h.units.length) false false s
  | none => s

/-- Units whose framing fails are counted as discarded (R436, Table 15.9). -/
def countFraming (us : List TrainUnit) (s : State) : State :=
  { s with phy := { s.phy with violations := s.phy.violations + BitVec.ofNat 16 (us.countP (fun u => !u.framed)) } }

/-- A unit whose check passes is resent upstream. -/
def relayUnit (h : HeadTrain) (u : TrainUnit) (s : State) : HeadTrain × State :=
  if unitGood u then ({ h with units := h.units ++ [u.body] }, sendLu (.trainUnit u.body) s)
  else (h, countFraming [u] s)

/-- HEAD_RELAY_UNIT. -/
def execHeadRelayUnit (u : TrainUnit) (last : Bool) (s : State) : Host.Outcome State Fault Refusal :=
  .next (match s.head.train with
    | some h =>
      if s.bridges then
        let r := relayUnit h u s
        if last then endRelay r.1 r.2 else { r.2 with head := { r.2.head with train := some r.1 } }
      else s
    | none => s)

/-! ## Requests of an M-Bus head (R457, R460) -/

/-- A head with an M-Bus upstream port in operation. -/
def State.manages (s : State) : Bool := s.mbusHead && s.lnk.on && s.clk.core && !s.inBasalt

/-- The kind of a train request. -/
def kindOfType (t : BitVec 6) : Option TrainKind :=
  if t = typeSweep then some .sweep else if t = typeEnumerate then some .enumerate else if t = typeNotice then some .notice else none

/-- The address is duplicated and not resolved yet (R477). -/
def Head.twice (h : Head) (a : BitVec 10) : Bool := h.duplicates.any (fun x => x.1 == a)

/-- The request may be sent: none unicast to a duplicated address but the ASSIGN that resolves it (R477). -/
def Head.maySend (h : Head) (r : HeadReq) : Bool := !h.twice r.dest || r.type == typeAssign

/-- The first request that may be sent, and the others. -/
def Head.nextTodo (h : Head) : Option (HeadReq × List HeadReq) :=
  match h.todo.span (fun r => !h.maySend r) with
  | (xs, r :: rest) => some (r, xs ++ rest)
  | (_, []) => none

/-- A frame leaves LD from address 0. -/
def sendDown (r : HeadReq) (s : State) : State := sendLd (.frame r.dest addrHead r.type r.seq r.payload) s

/-- A request of the head's own that has not been sent yet. -/
def HeadReq.fresh (dest : BitVec 10) (t : BitVec 6) (p : List Byte) : HeadReq :=
  { dest := dest, type := t, seq := 0, payload := p, tries := 0, upstream := none, woken := false, garbled := false }

/-- The head knows the member at an address as parked: it has parked it with STATE (R476), or the member's own mode byte says so (log entry
80). -/
def Head.parkedAt (h : Head) (a : BitVec 10) : Bool := h.table.any (fun m => m.address == a && (m.parked || m.asleep))

/-- A request leaves under the next sequence number, and its train or its response is waited for. -/
def issue (r : HeadReq) (rest : List HeadReq) (s : State) : State :=
  let r := { r with seq := s.head.seq, tries := 1 }
  let h := { s.head with seq := s.head.seq + 1, todo := rest }
  sendDown r { s with head := match kindOfType r.type with
    | some k => { h with train := some { kind := k, units := [], retried := false } }
    | none => { h with req := some r } }

/-- The next waiting request is sent when nothing is outstanding; to a member known as parked a PING goes first (R487). -/
def pump (s : State) : State :=
  if !s.manages || s.head.outstanding then s
  else
    match s.head.nextTodo with
    | none => s
    | some (r, rest) =>
      if s.head.parkedAt r.dest && !r.woken then
        issue (HeadReq.fresh r.dest typePing [])
          ((r :: rest).map (fun x => { x with woken := x.woken || x.dest == r.dest })) s
      else issue r rest s

/-- A request waits its turn. -/
def enqueue (dest : BitVec 10) (t : BitVec 6) (p : List Byte) (s : State) : State :=
  { s with head := { s.head with todo := s.head.todo ++ [HeadReq.fresh dest t p] } }

/-- To unpark a chain the head sends a broadcast STATE 2 twice (R487). The spec names no occasion on which a head does so on its own (log
entry 80). -/
def unparkChain (s : State) : State :=
  pump (enqueue addrBroadcast typeState [2] (enqueue addrBroadcast typeState [2] s))

/-- A train request with turn_addr (Table 16.5). -/
def turnPayload (a : BitVec 10) : List Byte := be 2 (addressWord a) ++ zeros 2

/-- A train request that is not waiting already. -/
def enqueueTrain (t : BitVec 6) (s : State) : State :=
  if s.head.todo.any (fun r => r.type == t) then s else enqueue addrBroadcast t (turnPayload addrBroadcast) s

/-- HEAD_SWEEP_TIMER: every 60 s (R476). -/
def execHeadSweepTimer (s : State) : Host.Outcome State Fault Refusal :=
  .next (if s.manages then pump (enqueueTrain typeSweep s) else s)

/-! ## The member table (R475 to R477) -/

/-- The address of a unit. -/
def unitAddress (b : List Byte) : BitVec 10 := BitVec.ofNat 10 (fieldN b 0 4 / 2 ^ 22)

/-- The kind of a record. -/
def unitKind (b : List Byte) : Nat := fieldN b 0 4 / 2 ^ 10 % 4

/-- The UID of a join record. -/
def joinUid (b : List Byte) : BitVec 64 := BitVec.ofNat 64 (fieldN b 6 8)

/-- The UID of an identity unit. -/
def identityUid (b : List Byte) : BitVec 64 := BitVec.ofNat 64 (fieldN b 4 8)

/-- Event 0x0805: address and state, UID. -/
def logMember (a : BitVec 10) (state : Nat) (uid : BitVec 64) (s : State) : State :=
  raise 0x0805 [BitVec.ofNat 32 (a.toNat * 65536 + state), uid.extractLsb' 32 32, uid.extractLsb' 0 32] s

/-- Addresses that an ASSIGN on its way gives. -/
def Head.promised (h : Head) : List (BitVec 10) :=
  (h.todo ++ h.req.toList).filterMap (fun r => if r.type = typeAssign then some (addressAt r.payload 8) else none)

/-- An ASSIGN to the holder of a UID is on its way. -/
def Head.assigns (h : Head) (uid : BitVec 64) : Bool :=
  (h.todo ++ h.req.toList).any (fun r => r.type == typeAssign && BitVec.ofNat 64 (fieldN r.payload 0 8) == uid)

/-- The lowest address in 1 to 1000 that no present member holds, in the table or in the last SWEEP, and none is about to get. -/
def Head.freeAddress (h : Head) : Option (BitVec 10) :=
  ((List.range 1000).map (fun k => BitVec.ofNat 10 (k + 1))).find? (fun a =>
    !(h.table.any (fun m => m.present && m.address == a)) && !h.seen.contains a && !h.promised.contains a)

/-- ASSIGN of a free address to the holder of a UID at an address. -/
def giveAddress (dest : BitVec 10) (uid : BitVec 64) (s : State) : State :=
  match s.head.freeAddress with
  | some a => enqueue dest typeAssign (be 8 uid ++ be 2 (addressWord a)) s
  | none => s

/-- A join record: logged, and answered with an ASSIGN to 1022. -/
def takeJoin (b : List Byte) (s : State) : State :=
  giveAddress addrUnassigned (joinUid b) (logMember addrUnassigned 0 (joinUid b) s)

/-- A member after a good SWEEP, which showed it or not; one that the head parked is not counted as absent. -/
def Member.after (m : Member) (seen : List (BitVec 10)) : Member :=
  if seen.contains m.address then { m with present := true, missed := 0 }
  else if !m.present || m.parked then m
  else { m with missed := m.missed + 1, present := decide (m.missed + 1 < 3) }

/-- The table after a good SWEEP, with each member that is now gone logged. -/
def updateTable (seen : List (BitVec 10)) (s : State) : State :=
  let gone := s.head.table.filter (fun m => m.present && !(m.after seen).present)
  let s := { s with head := { s.head with table := s.head.table.map (fun m => m.after seen) } }
  gone.foldl (fun t m => logMember m.address 2 m.uid t) s

/-- The addresses that occur more than once. -/
def twice : List (BitVec 10) → List (BitVec 10)
  | [] => []
  | a :: as => if as.contains a && !(twice as).contains a then a :: twice as else twice as

/-- A duplicated address is logged and resolved by an ENUMERATE (R477). -/
def takeDuplicate (a : BitVec 10) (s : State) : State :=
  enqueueTrain typeEnumerate
    (raise 0x0806 (arg a.toNat) { s with head := { s.head with duplicates := s.head.duplicates.filter (fun x => x.1 != a) ++ [(a, none)] } })

/-- R356: a register's next low part; a step of 2^23 or more is one back. -/
def LowReg.next (r : LowReg) (low : BitVec 24) : LowReg := { full := r.full + (low - r.prev).toInt, prev := low }

/-- A full value read anchors a register. -/
def LowReg.anchor (u : Nat) : LowReg := { full := u, prev := BitVec.ofNat 24 u }

/-- The registers carried on by the low parts of a SWEEP record (Table 16.6). -/
def ReadRegs.next (r : ReadRegs) (b : List Byte) : ReadRegs :=
  let low := fun (k : Nat) => BitVec.ofNat 24 (fieldN b k 3)
  { volume := r.volume.next (low 0x0A), heat := r.heat.next (low 0x0D), cold := r.cold.next (low 0x10) }

/-- What a record in a train of `n` member units tells of its member: the position from the head, and of a normal record the low parts
(R356, R472). -/
def Member.record (m : Member) (n : Nat) (b : List Byte) : Member :=
  { m with position := 1 + n - 1 - fieldN b 0 4 / 2 ^ 12 % 2 ^ 10, regs := if unitKind b = 0 then m.regs.map (·.next b) else m.regs }

/-- A member under the record of a train that carries its address; an address that two members hold tells nothing of either. -/
def Member.recorded (m : Member) (n : Nat) (records : List (List Byte)) : Member :=
  match records.filter (fun b => unitAddress b == m.address) with
  | [b] => m.record n b
  | _ => m

/-- A good SWEEP of `n` units consumed: table, joins, duplicates, and an ENUMERATE for an address that the table does not know. -/
def consumeSweep (n : Nat) (units : List (List Byte)) (s : State) : State :=
  let records := units.filter (fun b => unitKind b != 1)
  let seen := records.map unitAddress
  let s := { s with head := { s.head with seen := seen, table := s.head.table.map (fun m => m.recorded n records) } }
  let s := updateTable seen s
  let s := (units.filter (fun b => unitKind b == 1)).foldl (fun t b => takeJoin b t) s
  let s := (twice (seen.filter memberAddress)).foldl (fun t a => takeDuplicate a t) s
  let unknown := seen.any (fun a => memberAddress a && !s.head.table.any (fun m => m.address == a))
  when (unknown || !s.head.duplicates.isEmpty) (enqueueTrain typeEnumerate) s

/-- A member entered in the table of up to 1000, in place of what it held for that UID or address; what the head knew of that UID (parked,
position, registers) goes with it. -/
def Head.enter (h : Head) (uid : BitVec 64) (a : BitVec 10) : Head :=
  let xs := h.table.filter (fun m => m.uid != uid && m.address != a)
  let m := (h.table.find? (fun m => m.uid == uid)).getD
    { uid := uid, address := a, present := true, missed := 0, parked := false, asleep := false, position := 0, regs := none }
  if xs.length < 1000 then { h with table := xs ++ [{ m with address := a, present := true, missed := 0 }] }
  else { h with table := xs }

/-- Which UID keeps a duplicated address: the one that the table has, else the first of the train. -/
def keeperOf (h : Head) (a : BitVec 10) (uids : List (BitVec 64)) : Option (BitVec 64) :=
  match h.table.find? (fun m => m.address == a && uids.contains m.uid) with
  | some m => some m.uid
  | none => uids.head?

/-- An address is resolved when an ENUMERATE without a bad unit shows one holder at most; otherwise each holder but its keeper gets a free
address, unless one is on its way to it, and a whole ENUMERATE tells how many they are (R477). -/
def resolveAddress (whole : Bool) (ids : List (BitVec 10 × BitVec 64)) (a : BitVec 10) (s : State) : State :=
  let uids := (ids.filter (fun x => x.1 == a)).map Prod.snd
  let keep := keeperOf s.head a uids
  let s := keep.elim s (fun u => { s with head := s.head.enter u a })
  let others := uids.filter (fun u => some u != keep)
  if whole && others.isEmpty then { s with head := { s.head with duplicates := s.head.duplicates.filter (fun x => x.1 != a) } }
  else
    let n := if whole then some others.length else none
    let s := { s with head := { s.head with duplicates := s.head.duplicates.map (fun x => if x.1 == a then (a, n) else x) } }
    (others.filter (fun u => !s.head.assigns u)).foldl (fun t u => giveAddress a u t) s

/-- A good ENUMERATE of `n` units consumed: members of other addresses entered, and every duplicated address resolved. -/
def consumeEnumerate (n : Nat) (units : List (List Byte)) (s : State) : State :=
  let ids := (units.map (fun b => (unitAddress b, identityUid b))).filter (fun x => memberAddress x.1)
  let open_ := s.head.duplicates.map Prod.fst
  let s := (ids.filter (fun x => !open_.contains x.1)).foldl (fun t x => { t with head := t.head.enter x.2 x.1 }) s
  open_.foldl (fun t a => resolveAddress (n == units.length) ids a t) s

/-- A train of `n` units that has ended good at an M-Bus head, which consumes it and remembers its first unit's address (R468, R470). -/
def consumeTrain (k : TrainKind) (n : Nat) (units : List (List Byte)) (s : State) : State :=
  let first := units.head?.map unitAddress
  match k with
  | .sweep => consumeSweep n units { s with head := { s.head with firstSweep := first.or s.head.firstSweep } }
  | .enumerate => consumeEnumerate n units { s with head := { s.head with firstEnum := first.or s.head.firstEnum } }
  | .notice => s

/-- TRAIN_END: units whose checks fail are dropped (R468). -/
def execTrainEnd (units : List TrainUnit) (s : State) : Host.Outcome State Fault Refusal :=
  .next (match s.head.train with
    | none => s
    | some h =>
      if s.bridges then endRelay h s
      else if s.manages then
        let s := countFraming units { s with head := { s.head with train := none } }
        pump (consumeTrain h.kind units.length ((units.filter unitGood).map TrainUnit.body) s)
      else s)

/-- The turner to repeat a failed SWEEP or ENUMERATE with (R468). -/
def Head.retryTurn (h : Head) (t : HeadTrain) : Option (BitVec 10) :=
  if t.retried then none
  else
    match t.kind with
    | .sweep => h.firstSweep
    | .enumerate => h.firstEnum
    | .notice => none

/-- The type of a train's request. -/
def TrainKind.type : TrainKind → BitVec 6
  | .sweep => typeSweep
  | .enumerate => typeEnumerate
  | .notice => typeNotice

/-- The request repeated as a new one, with turn_addr named. -/
def retryTrain (t : HeadTrain) (a : BitVec 10) (s : State) : State :=
  let r := { HeadReq.fresh addrBroadcast t.kind.type (turnPayload a) with seq := s.head.seq, tries := 1 }
  sendDown r { s with head := { s.head with seq := s.head.seq + 1, train := some { t with retried := true } } }

/-- TRAIN_TIMEOUT: no unit has begun, and the train has failed: a Watal-upstream head sends its own unit alone; an M-Bus head may repeat
the request (R468, R470). -/
def execTrainTimeout (s : State) : Host.Outcome State Fault Refusal :=
  .next (match s.head.train with
    | none => s
    | some h =>
      if !h.units.isEmpty then s
      else if s.bridges then endRelay h s
      else if s.manages then
        match s.head.retryTurn h with
        | some a => retryTrain h a s
        | none => pump { s with head := { s.head with train := none } }
      else s)

/-! ## Responses (R462, R463) -/

/-- The reads of a selected member fail: the requests that wait for it are dropped (R490). -/
def failReads (s : State) : State :=
  { s with head := { s.head with reads := .failed, todo := s.head.todo.filter (fun r => r.type != typeRead) } }

/-- Only the 70 ms of R487 are waited for: a PING that wakes a parked member, or a broadcast STATE. -/
def HeadReq.onlyWakes (r : HeadReq) : Bool := r.type == typePing || r.dest == addrBroadcast

/-- Members that a STATE of the head has reached are parked by the targets 3 and 4 and unparked by the others (R397, R476). -/
def takeState (r : HeadReq) (s : State) : State :=
  let hit := fun (m : Member) => r.dest == addrBroadcast || m.address == r.dest
  let parks := decide (3 ≤ fieldN r.payload 0 1)
  { s with head := { s.head with table := s.head.table.map (fun m => if hit m then { m with parked := parks } else m) } }

/-- Failed checks in the answers to a unicast request that has failed: two members hold the address, and R477 is applied (Table 16.21, log
entry 91). -/
def takeCollision (r : HeadReq) (s : State) : State := when (r.garbled && memberAddress r.dest) (takeDuplicate r.dest) s

/-- RESPONSE_TIMEOUT: an M-Bus head retries twice under the same number and then logs the failure; a forwarded request has only the
wait of R463, and one that only wakes the wait of R487. -/
def execResponseTimeout (s : State) : Host.Outcome State Fault Refusal :=
  .next (match s.head.req with
    | none => s
    | some r =>
      if r.upstream.isSome then { s with head := { s.head with req := none } }
      else if r.onlyWakes then
        pump (when (r.type == typeState) (takeState r) { s with head := { s.head with req := none } })
      else if r.tries < 3 then
        let r := { r with tries := r.tries + 1 }
        sendDown r { s with head := { s.head with req := some r } }
      else
        let s := raise 0x0807 (arg (r.dest.toNat * 65536 + r.type.toNat)) { s with head := { s.head with req := none } }
        let s := takeCollision r s
        pump (if r.type = typeRead then failReads s else s))

/-- The response belongs to the outstanding request: its sequence, its addressee, and, but for an ASSIGN, its source. -/
def HeadReq.answeredBy (r : HeadReq) (f : Frame) : Bool :=
  f.seq == r.seq && f.dest == r.upstream.getD addrHead && (f.src == r.dest || r.type == typeAssign)

/-- A holder of a duplicated address has taken another one; with the last of them the address is resolved (R477). -/
def Head.settleTwice (h : Head) (a : BitVec 10) : Head :=
  { h with duplicates := h.duplicates.filterMap (fun x =>
      if x.1 != a then some x
      else match x.2 with
        | some (k + 2) => some (a, some (k + 1))
        | some _ => none
        | none => some x) }

/-- An ASSIGN was taken: the member is in the table, and a duplicate is resolved with the last holder that needed another address (R475 to
R477). -/
def takeAssigned (r : HeadReq) (s : State) : State :=
  let uid := BitVec.ofNat 64 (fieldN r.payload 0 8)
  let a := addressAt r.payload 8
  logMember a 1 uid { s with head := (s.head.enter uid a).settleTwice r.dest }

/-- The registers of a member anchored by the EE part read from it, in L and Wh (R356, R472). The part does not tell which pipe loop A
names: a free value (log entry 12). -/
def anchorRegs (a : BitVec 10) (p08 : List Byte) (s : State) : State :=
  let pipe := (Config.memberUnknown s.free).pipe
  let regs : ReadRegs :=
    { volume := .anchor (fieldN p08 (0x18 + 32 * (pipe.num - 1)) 8 / 1000000), heat := .anchor (fieldN p08 0x78 8 / 1000),
      cold := .anchor (fieldN p08 0x80 8 / 1000) }
  { s.spend with head := { s.head with table := s.head.table.map (fun m => if m.address == a then { m with regs := some regs } else m) } }

/-- The mode byte of the member at an address: bit 3 tells whether it is parked (Table 16.16). -/
def takeMode (a : BitVec 10) (mode : Byte) (s : State) : State :=
  let f := fun (m : Member) => if m.address == a then { m with asleep := mode.getLsbD 3 } else m
  { s with head := { s.head with table := s.head.table.map f } }

/-- Data of a part that was read from the member at an address (Table 16.12): the header part holds its mode byte, the EE part its
registers. -/
def takePart (a : BitVec 10) (p : List Byte) (s : State) : State :=
  match s.head.reads with
  | .pending got =>
    let s := { s with head := { s.head with reads := .pending (got ++ [(p.getD 0 0, p.drop 8)]) } }
    let s := when (p.getD 0 0 == 0) (takeMode a (p.getD 27 0)) s
    when (p.getD 0 0 == 8) (anchorRegs a (p.drop 8)) s
  | .failed | .done _ _ _ _ => s

/-- A response to one of the head's own requests. -/
def takeResponse (nak : Bool) (r : HeadReq) (f : Frame) (s : State) : State :=
  if r.type = typeAssign then (if nak then s else takeAssigned r s)
  else if r.type = typeState then (if nak then s else takeState r s)
  else if r.type = typePing then (if nak then s else takeMode r.dest (f.payload.getD 1 0) s)
  else if r.type = typeRead && s.head.selected == .member r.dest then (if nak then failReads s else takePart r.dest f.payload s)
  else s

/-- RESPONSE_RECEIVED: one with good checks is sent upstream with new ones, or taken; an M-Bus head marks its request when the checks
fail. -/
def execResponseReceived (nak : Bool) (f : Frame) (s : State) : Host.Outcome State Fault Refusal :=
  .next (if s.bridges || s.manages then
    let s := takePolarity f s
    let t := if nak then typeNak else typeAck
    match s.head.req with
    | none => s
    | some r =>
      if sound t f && r.answeredBy f then
        let s := { s with head := { s.head with req := none } }
        if s.bridges then sendLu (.frame f.dest f.src t f.seq f.payload) s else pump (takeResponse nak r f s)
      else if s.bridges || sound t f then s
      else { s with head := { s.head with req := some { r with garbled := true } } }
  else s)

end Sys2Proof.Machine
end

