-- ==== Sys2Proof/Machine/Mbus.lean ====
section
/-!
DEFINITION. The EN 13757-3 subset of a head with an M-Bus upstream port (R488 to R490, Tables 16.19, 16.20). The telegram framing and
the coding of its fields are those of EN 13757-2 and EN 13757-3 (log entry 13).
-/
namespace Sys2Proof.Machine

/-! ## Secondary addresses (R489) -/

/-- Bytes with the least significant first. -/
def leN (n x : Nat) : List Byte := (beN n x).reverse

/-- Eight BCD digits of a number below 100 000 000, as four bytes. -/
def bcd8 (n : Nat) : List Byte := [toBcd (n / 1000000), toBcd (n / 10000), toBcd (n / 100), toBcd n]

/-- The head's own number. -/
def ownNumber (c : Conf) : List Byte := be 4 c.meterId

/-- A member's number: UID[63:3] modulo 100 000 000. -/
def memberNumber (uid : BitVec 64) : List Byte := bcd8 (uid.toNat / 8 % 100000000)

/-- A secondary address in the order of a telegram: number, manufacturer, version, medium. -/
def secondaryOf (c : Conf) (number : List Byte) : List Byte := number.reverse ++ leN 2 c.mbusMan.toNat ++ [c.mbusVer, c.mbusMed]

/-- The present members whose secondary address is the one named. -/
def State.matching (s : State) (a : List Byte) : List Member :=
  s.head.table.filter (fun m => m.present && secondaryOf s.conf (memberNumber m.uid) == a)

/-- The lowest address of some members. -/
def lowestAddress : List Member → Option (BitVec 10)
  | [] => none
  | m :: ms =>
    match lowestAddress ms with
    | none => some m.address
    | some a => some (if m.address.toNat ≤ a.toNat then m.address else a)

/-! ## Selection (Table 16.19) -/

/-- A telegram leaves the upstream port. -/
def sendUp (b : List Byte) (s : State) : State := sendLu (.mbus b) s

/-- No device is selected, and reads that wait are dropped. -/
def deselect (s : State) : State :=
  let t := failReads s
  { t with head := { t.head with selected := .none, fcb := none } }

/-- SND_NKE: deselects; answered at 253 only. -/
def execSndNke (address : Byte) (s : State) : Host.Outcome State Fault Refusal :=
  .next (if s.manages && (address == 253 || address == 255) then
    let t := deselect s
    if address = 253 then sendUp [0xE5] t else t
  else s)

/-- The READ of a whole part of at most 232 bytes. -/
def readRequest (part size : Nat) : List Byte := [BitVec.ofNat 8 part, 0, BitVec.ofNat 8 size, 0]

/-- A member is selected: the head reads its parts 0x00, 0x05, 0x07 and 0x08 (R490). -/
def selectMember (a : BitVec 10) (s : State) : State :=
  let s := { s with head := { s.head with selected := .member a, reads := .pending [] } }
  pump (enqueue a typeRead (readRequest 8 216) (enqueue a typeRead (readRequest 7 64)
    (enqueue a typeRead (readRequest 5 192) (enqueue a typeRead (readRequest 0 24) s))))

/-- SND_UD with CI 0x52 to 253: the head itself or a present member with the full secondary address is selected. -/
def execSndUd (address ci : Byte) (secondary : List Byte) (s : State) : Host.Outcome State Fault Refusal :=
  .next (if s.manages && address == 253 && ci == 0x52 then
    let t := deselect s
    if secondary = secondaryOf s.conf (ownNumber s.conf) then sendUp [0xE5] { t with head := { t.head with selected := .self } }
    else
      let ms := s.matching secondary
      match lowestAddress ms with
      | none => t
      | some a =>
        let t := when (decide (1 < ms.length)) (raise 0x0808 (arg a.toNat)) t
        sendUp [0xE5] (selectMember a t)
  else s)

/-- MBUS_MEMBER_READ_COMPLETE: the four parts are there, or the reads have failed. -/
def execMbusMemberReadComplete (s : State) : Host.Outcome State Fault Refusal :=
  .next (match s.head.reads with
    | .pending got =>
      let part := fun (k : Byte) => (got.find? (fun x => x.1 == k)).map Prod.snd
      (match part 0, part 5, part 7, part 8 with
       | some a, some b, some c, some d => { s with head := { s.head with reads := .done a b c d } }
       | _, _, _, _ => failReads s)
    | .failed | .done _ _ _ _ => s)

/-! ## RSP_UD (R490, Table 16.20) -/

/-- A data record: DIF and VIF bytes, and the value of a width with the least significant byte first. -/
def dataRecord (head : List Byte) (n : Nat) (x : Int) : List Byte := head ++ (beI n x).reverse

/-- Date and time, type F: minutes, hours, day, month and the year in two parts. -/
def typeF (c : Cal) : List Byte :=
  let y := ofBcd c.year
  [BitVec.ofNat 8 (ofBcd c.min), BitVec.ofNat 8 (ofBcd c.hour), BitVec.ofNat 8 (ofBcd c.date + y % 8 * 32),
   BitVec.ofNat 8 (ofBcd c.month + y / 8 * 16)]

/-- The calendar of a header part, a number of LF periods later. -/
def headerTime (p00 : List Byte) (age : Nat) : Cal :=
  let c : Cal := ⟨p00.getD 2 0, p00.getD 3 0, p00.getD 4 0, p00.getD 6 0, p00.getD 7 0, p00.getD 8 0⟩
  (List.range ((fieldN p00 0 2 + age) / 32768)).foldl (fun t _ => t.next) c

/-- What the telegram takes from parts and beside them. -/
structure MbusIn where
  p00 : List Byte
  p05 : List Byte
  p07 : List Byte
  p08 : List Byte
  age : Nat
  fault : Bool
  pipe : Idx3
  supplyIsSecond : Bool
deriving DecidableEq, Repr

/-- ts_c10000 of a sensor in the temperature part. -/
def sensorAt (p07 : List Byte) (n : Nat) : Int := fieldI p07 (16 + 12 * n) 4

/-- Table 16.20. -/
def dataRecords (x : MbusIn) : List Byte :=
  let k := x.pipe.num - 1
  let sup := if x.supplyIsSecond then 1 else 0
  dataRecord [0x06, 0x03] 6 (fieldN x.p08 0x78 8 / 1000 : Nat) ++
  dataRecord [0x86, 0x10, 0x03] 6 (fieldN x.p08 0x80 8 / 1000 : Nat) ++
  dataRecord [0x06, 0x13] 6 (fieldN x.p08 (0x18 + 32 * k) 8 / 1000000 : Nat) ++
  dataRecord [0x04, 0x3B] 4 (roundDiv (fieldI x.p05 (96 + 32 * k) 6 * 3600) 1000000000) ++
  dataRecord [0x04, 0x2B] 4 (fieldI x.p08 (0x78 + 0x24) 4) ++
  dataRecord [0x02, 0x5A] 2 (roundDiv (sensorAt x.p07 sup) 1000) ++
  dataRecord [0x02, 0x5E] 2 (roundDiv (sensorAt x.p07 (1 - sup)) 1000) ++
  [0x04, 0x6D] ++ typeF (headerTime x.p00 x.age)

/-- A pipe of the FE part is INVALID, or a loop of the EE part is in error (R490). -/
def temporaryError (p05 p08 : List Byte) : Bool :=
  (List.range 3).any (fun k => fieldN p05 (96 + 32 * k + 17) 1 % 8 == PipeState.invalid.code) ||
  fieldN p08 (0x78 + 0x28) 1 % 16 == 4 || fieldN p08 (0xA8 + 0x28) 1 % 16 == 4

/-- The status byte of a telegram with data. -/
def mbusStatus (x : MbusIn) : Byte :=
  flagByte false false false (temporaryError x.p05 x.p08) x.fault ((x.p00.getD 9 0).getLsbD 6) false false

/-- The long frame of EN 13757-2 around an RSP_UD, CI 0x72. -/
def longFrame (body : List Byte) : List Byte :=
  let b : List Byte := [0x08, 0xFD, 0x72] ++ body
  let n := BitVec.ofNat 8 b.length
  [0x68, n, n, 0x68] ++ b ++ [b.foldl (· + ·) 0, 0x16]

/-- The telegram: the fixed header of 12 bytes and the data records. -/
def rspUd (secondary : List Byte) (access status : Byte) (records : List Byte) : List Byte :=
  longFrame (secondary ++ [access, status, 0, 0] ++ records)

/-- The head's own parts and their surroundings. -/
def State.ownMbus (s : State) : MbusIn :=
  let x := s.snap
  { p00 := x.header, p05 := x.fe, p07 := x.temp, p08 := x.ee, age := x.ageLf, fault := x.status.getLsbD 15,
    pipe := s.conf.loopA.pipe, supplyIsSecond := s.conf.loopA.supplyIsSecond }

/-- A member's parts, with what they do not tell as free values. -/
def memberMbus (a b c d : List Byte) (free : Nat) : MbusIn :=
  let u := Config.memberUnknown free
  { p00 := a, p05 := b, p07 := c, p08 := d, age := u.age, fault := u.fault, pipe := u.pipe, supplyIsSecond := u.supplyIsSecond }

/-- The new RSP_UD of the selected device; none where nothing is selected or the member is no longer in the table. -/
def newRsp (s : State) : Option (List Byte) :=
  match s.head.selected with
  | .none => none
  | .self =>
    let x := s.ownMbus
    some (rspUd (secondaryOf s.conf (ownNumber s.conf)) s.head.accessNo (mbusStatus x) (dataRecords x))
  | .member a =>
    match s.head.table.find? (fun m => m.address == a) with
    | none => none
    | some m =>
      let sec := secondaryOf s.conf (memberNumber m.uid)
      match s.head.reads with
      | .pending _ => some (rspUd sec s.head.accessNo 0x01 [])
      | .failed => some (rspUd sec s.head.accessNo 0x02 [])
      | .done p q r t =>
        let x := memberMbus p q r t s.free
        some (rspUd sec s.head.accessNo (mbusStatus x) (dataRecords x))

/-- REQ_UD2 to 253: the previous telegram again when FCB does not toggle, else a new one. -/
def execReqUd2 (address : Byte) (fcb : Bool) (s : State) : Host.Outcome State Fault Refusal :=
  .next (if s.manages && address == 253 && s.head.selected != .none then
    (if s.head.fcb = some fcb then sendUp s.head.lastRsp s
     else
      match newRsp s with
      | none => s
      | some r => sendUp r { s.spend with head := { s.head with fcb := some fcb, lastRsp := r, accessNo := s.head.accessNo + 1 } })
  else s)

end Sys2Proof.Machine
end

