-- ==== Sys2Proof/Machine/Dispatch.lean ====
section
/-!
DEFINITION. exec: the effect of one command on the state, one arm per row of the opcode table, each a single call of that
command's own meaning. The queue of waiting commands is the step's.
-/
namespace Sys2Proof.Machine

/-- The effect of a command. -/
def exec (i : Instr) (s : State) : Host.Outcome State Fault Refusal :=
  match i with
  | .backupPowerOn recovers => Sys2Proof.Machine.execBackupPowerOn recovers s
  | .mainPowerOn => Sys2Proof.Machine.execMainPowerOn s
  | .corePorRelease d => Sys2Proof.Machine.execCorePorRelease d s
  | .vcoreBrownOut => Sys2Proof.Machine.execVcoreBrownOut s
  | .resetNAsserted w supply => Sys2Proof.Machine.execResetNAsserted w supply s
  | .resetNReleased d => Sys2Proof.Machine.execResetNReleased d s
  | .watchdogReset => Sys2Proof.Machine.execWatchdogReset s
  | .clockReadyTimeout resetId => Sys2Proof.Machine.execClockReadyTimeout resetId s
  | .stepTimeLimit c => Sys2Proof.Machine.execStepTimeLimit c s
  | .restartDelayExpiry d => Sys2Proof.Machine.execRestartDelayExpiry d s
  | .referenceDeclaredPresent => Sys2Proof.Machine.execReferenceDeclaredPresent s
  | .clockSwitchToReference => Sys2Proof.Machine.execClockSwitchToReference s
  | .referenceDeclaredAbsent => Sys2Proof.Machine.execReferenceDeclaredAbsent s
  | .referenceWakeLimit c m => Sys2Proof.Machine.execReferenceWakeLimit c m s
  | .crystalGood => Sys2Proof.Machine.execCrystalGood s
  | .crystalStopped => Sys2Proof.Machine.execCrystalStopped s
  | .cycleTick => Sys2Proof.Machine.execCycleTick s
  | .voteRaised c run => Sys2Proof.Machine.execVoteRaised c run s
  | .idleTimerExpiry => Sys2Proof.Machine.execIdleTimerExpiry s
  | .lossWindowEnd eventHigh vbat27 => Sys2Proof.Machine.execLossWindowEnd eventHigh s vbat27
  | .wakeFromSleep => Sys2Proof.Machine.execWakeFromSleep s
  | .deepSleepWakeStrobe w => Sys2Proof.Machine.execDeepSleepWakeStrobe w s
  | .vcoreSettled => Sys2Proof.Machine.execVcoreSettled s
  | .firmwareReloadComplete => Sys2Proof.Machine.execFirmwareReloadComplete s
  | .prqPoll status => Sys2Proof.Machine.execPrqPoll status s
  | .prqAnswerTimeout => Sys2Proof.Machine.execPrqAnswerTimeout s
  | .wakeRetryTimer => Sys2Proof.Machine.execWakeRetryTimer s
  | .launch coarse => Sys2Proof.Machine.execLaunch coarse s
  | .secondLaunch coarse => Sys2Proof.Machine.execSecondLaunch coarse s
  | .driveFault pad => Sys2Proof.Machine.execDriveFault pad s
  | .stopWindowOpen p d above => Sys2Proof.Machine.execStopWindowOpen p d above s
  | .thresholdFiring p d q => Sys2Proof.Machine.execThresholdFiring p d q s
  | .zeroCrossing p d q falling peak => Sys2Proof.Machine.execZeroCrossing p d q falling peak s
  | .stopWindowClose p d peak => Sys2Proof.Machine.execStopWindowClose p d peak s
  | .conversionDone slot code coarseEnd chargeOk => Sys2Proof.Machine.execConversionDone slot code coarseEnd chargeOk s
  | .conversionsComplete lenUs m => Sys2Proof.Machine.execConversionsComplete lenUs m s
  | .repeatLaunch coarse => Sys2Proof.Machine.execRepeatLaunch coarse s
  | .holdExpiry p => Sys2Proof.Machine.execHoldExpiry p s
  | .gapJobComplete r => Sys2Proof.Machine.execGapJobComplete r s
  | .gainCalibrationDue => Sys2Proof.Machine.execGainCalibrationDue s
  | .inlCalibrationDue => Sys2Proof.Machine.execInlCalibrationDue s
  | .loanCutoff => Sys2Proof.Machine.execLoanCutoff s
  | .temperatureSetDue => Sys2Proof.Machine.execTemperatureSetDue s
  | .dischargeStop startCoarse code coarseEnd chargeOk => Sys2Proof.Machine.execDischargeStop startCoarse code coarseEnd chargeOk s
  | .dischargeTimeLimit => Sys2Proof.Machine.execDischargeTimeLimit s
  | .sweepDue => Sys2Proof.Machine.execSweepDue s
  | .sweepLaunch coarse timer => Sys2Proof.Machine.execSweepLaunch coarse timer s
  | .agateAnalysisComplete => Sys2Proof.Machine.execAgateAnalysisComplete s
  | .deferredTimeSetCommit => Sys2Proof.Machine.execDeferredTimeSetCommit s
  | .tstEdge start stop seen => Sys2Proof.Machine.execTstEdge start stop seen s
  | .testTimeout => Sys2Proof.Machine.execTestTimeout s
  | .vernierSelfTestTimer t => Sys2Proof.Machine.execVernierSelfTestTimer t s
  | .pulseHighEnd padB => Sys2Proof.Machine.execPulseHighEnd padB s
  | .pulseLowEnd padB => Sys2Proof.Machine.execPulseLowEnd padB s
  | .managementTick r => Sys2Proof.Machine.execManagementTick r s
  | .scheduledSaveDue => Sys2Proof.Machine.execScheduledSaveDue s
  | .memoryOperationComplete => Sys2Proof.Machine.execMemoryOperationComplete s
  | .memoryOperationTimeout => Sys2Proof.Machine.execMemoryOperationTimeout s
  | .hourClose h => Sys2Proof.Machine.execHourClose h s
  | .powerFailWarning => Sys2Proof.Machine.execPowerFailWarning s
  | .powerFailCycleLimit => Sys2Proof.Machine.execPowerFailCycleLimit s
  | .powerFailClear => Sys2Proof.Machine.execPowerFailClear s
  | .batteryLow => Sys2Proof.Machine.execBatteryLow s
  | .rtcSecond vbat27 => Sys2Proof.Machine.execRtcSecond s vbat27
  | .deviceSecond vbkLow vbkMv => Sys2Proof.Machine.execDeviceSecond vbkLow vbkMv s
  | .freezeEdge => Sys2Proof.Machine.execFreezeEdge s
  | .sessionLimit => Sys2Proof.Machine.execSessionLimit s
  | .bkdCommit => Sys2Proof.Machine.execBkdCommit s
  | .wakeInput vbat27 => Sys2Proof.Machine.execWakeInput s vbat27
  | .eventEdge rising => Sys2Proof.Machine.execEventEdge rising s
  | .matcherHit f vbat27 => Sys2Proof.Machine.execMatcherHit s f vbat27
  | .parkedServiceTimeout => Sys2Proof.Machine.execParkedServiceTimeout s
  | .insertionRequest lineOk => Sys2Proof.Machine.execInsertionRequest lineOk s
  | .insertionGapFound => Sys2Proof.Machine.execInsertionGapFound s
  | .removal => Sys2Proof.Machine.execRemoval s
  | .removalPassOpen => Sys2Proof.Machine.execRemovalPassOpen s
  | .ldieSupplyLoss => Sys2Proof.Machine.execLdieSupplyLoss s
  | .tailFlagChange tail => Sys2Proof.Machine.execTailFlagChange tail s
  | .downstreamShort ld100 => Sys2Proof.Machine.execDownstreamShort ld100 s
  | .isolationRetry gone => Sys2Proof.Machine.execIsolationRetry gone s
  | .headLineFault => Sys2Proof.Machine.execHeadLineFault s
  | .headLineRetry => Sys2Proof.Machine.execHeadLineRetry s
  | .lineRampComplete => Sys2Proof.Machine.execLineRampComplete s
  | .repeaterDirectionTaken lu ld => Sys2Proof.Machine.execRepeaterDirectionTaken lu ld s
  | .repeaterIdleRelease => Sys2Proof.Machine.execRepeaterIdleRelease s
  | .unservedFrame why f => Sys2Proof.Machine.execUnservedFrame why f s
  | .ping f => Sys2Proof.Machine.execPing f s
  | .identify f => Sys2Proof.Machine.execIdentify f s
  | .read f => Sys2Proof.Machine.execRead f s
  | .status f => Sys2Proof.Machine.execStatus f s
  | .clear f => Sys2Proof.Machine.execClear f s
  | .sweep f => Sys2Proof.Machine.execSweep f s
  | .enumerate f => Sys2Proof.Machine.execEnumerate f s
  | .noticeWindow f => Sys2Proof.Machine.execNoticeWindow f s
  | .assign f => Sys2Proof.Machine.execAssign f s
  | .timeSet f => Sys2Proof.Machine.execTimeSet f s
  | .timeRead f => Sys2Proof.Machine.execTimeRead f s
  | .alarmSet f => Sys2Proof.Machine.execAlarmSet f s
  | .state f => Sys2Proof.Machine.execState f s
  | .blockReset f => Sys2Proof.Machine.execBlockReset f s
  | .blockResetAssert => Sys2Proof.Machine.execBlockResetAssert s
  | .imageOpen f => Sys2Proof.Machine.execImageOpen f s
  | .imageEraseComplete => Sys2Proof.Machine.execImageEraseComplete s
  | .imageBlock f => Sys2Proof.Machine.execImageBlock f s
  | .imageCommit f => Sys2Proof.Machine.execImageCommit f s
  | .imageAbort f => Sys2Proof.Machine.execImageAbort f s
  | .imageSessionTimeout => Sys2Proof.Machine.execImageSessionTimeout s
  | .logRead f => Sys2Proof.Machine.execLogRead f s
  | .claim f stuck lockReads => Sys2Proof.Machine.execClaim f stuck lockReads s
  | .responseCacheExpiry => Sys2Proof.Machine.execResponseCacheExpiry s
  | .turnUnitSend => Sys2Proof.Machine.execTurnUnitSend s
  | .appendUnit hop => Sys2Proof.Machine.execAppendUnit hop s
  | .trainDisarmTimeout => Sys2Proof.Machine.execTrainDisarmTimeout s
  | .trainEnd units => Sys2Proof.Machine.execTrainEnd units s
  | .trainTimeout => Sys2Proof.Machine.execTrainTimeout s
  | .headRelayUnit u last => Sys2Proof.Machine.execHeadRelayUnit u last s
  | .responseTimeout => Sys2Proof.Machine.execResponseTimeout s
  | .responseReceived nak f => Sys2Proof.Machine.execResponseReceived nak f s
  | .headSweepTimer => Sys2Proof.Machine.execHeadSweepTimer s
  | .sndNke address => Sys2Proof.Machine.execSndNke address s
  | .sndUd address ci secondary => Sys2Proof.Machine.execSndUd address ci secondary s
  | .reqUd2 address fcb => Sys2Proof.Machine.execReqUd2 address fcb s
  | .mbusMemberReadComplete => Sys2Proof.Machine.execMbusMemberReadComplete s
  | .pwronHigh => Sys2Proof.Machine.execPwronHigh s
  | .batteryLowRearm => Sys2Proof.Machine.execBatteryLowRearm s
  | .vcoreStrobeTimeout => Sys2Proof.Machine.execVcoreStrobeTimeout s
  | .basaltReferenceLimit c => Sys2Proof.Machine.execBasaltReferenceLimit c s
  | .forwardedRequest type f => Sys2Proof.Machine.execForwardedRequest type f s

end Sys2Proof.Machine
end

