-- ==== Sys2Proof/Machine/Pads.lean ====
section
/-!
DEFINITION. The pads as functions of the state and of what stands beside it at an instant (R38, R39, R168 to R173, R249, R316, Table
2.3): no pad has a state of its own beside what drives it.
-/
namespace Sys2Proof.Machine

/-! ## Pads, and what a pad depends on beside the state -/

/-- The pads of Table 2.3; an XD pad by its path and side (`.up` XDnU, `.dn` XDnD), TSn, CFG_A to CFG_F and the pulse pads by number. -/
inductive Pad where
  | xd (p : Idx3) (side : Dir)
  | ts (n : Fin 4)
  | tsref | tscap
  | cfg (n : Fin 6)
  | xin | xout | x32 | prqCk | prqDa | memCs | memOut | memDo | link | vlink3 | strapTest | tst | resetN | wakeEvent | pwron | faultN
  | pulse (b : Bool)
deriving DecidableEq, Repr

/-- What a pad can be seen as. `switched`: joined to its resistor's far side, TSCOM or TSCAP; `receive`: the driver is high impedance and
the lane connected; `discharging`: TSCAP falls through one resistor. -/
inductive PadState where
  | highZ | clamped | low | high | kept | active | switched | receive | discharging | pullUp | pullDown | inputNoPull | stopped
  | bypassed | inserted
deriving DecidableEq, Repr

/-- The columns of Table 2.3. -/
inductive PadColumn where
  | noSupply | reset | awake | sleep | deep | off
deriving DecidableEq, Repr

/-- The instant at which pads are looked at: VIO is there, the line stands at 12 V or more, VHOLD has not fallen to 5.0 V since the latest warning, grid units from the
latest launch edge (before a cycle's first one negative), which of its reads S03 makes, from 0 in their order, and microseconds since the read, the discharge or the
wake strobe began. -/
structure PadInstant where
  vio : Bool
  line12 : Bool
  vhold5 : Bool
  q : Int
  read : Option Nat
  t : Nat
deriving DecidableEq, Repr

/-! ## Columns (R38, R39) -/

/-- Every start step up to the passing of S11 counts as start. R38 names no column for the wait of the core for its power-on release, for
the restart delay of R153 and for the factory test state of R5: they take the column of reset and start (DESIGN CHOICE, log entry 90). -/
def State.padStart (s : State) : Bool :=
  s.power.resetLow ||
  (match s.start.phase with
   | .inReset | .delay | .factory => true
   | .step n => n < 12
   | .basalt | .running => false)

/-- The column in force for the pads of the VIO and VDRV domains. During an entry it is that of the state left until E + 4, and an exit from
DEEP SLEEP shows RUN from step 3 of Table 14.5 on, where the core runs (DESIGN CHOICE, log entry 90). -/
def State.padColumn (s : State) (x : PadInstant) : PadColumn :=
  if !x.vio then .noSupply
  else if s.power.state == .off then .off
  else if s.padStart then .reset
  else
    match s.power.state with
    | .run | .idle => .awake
    | .sleep => .sleep
    | .deep => .deep
    | .off => .off

/-! ## Transducer pads (Table 6.3) -/

/-- The side transmits at a launch: in reciprocal mode both, in alternating mode the one opposite to the direction received (R247). -/
def State.sends (s : State) (second : Bool) (side : Dir) : Bool :=
  let d := firstDir s.seq.parity
  !s.conf.alternating || side == (if second then d else otherDir d)

/-- The launch to come in grid units from the latest one, whether it is a second launch, and its paths. -/
def State.nextLaunch (s : State) : Option (Int × Bool × List Idx3) :=
  match s.seq.phase with
  | .none => if s.seq.sweepOn then some (0, false, Idx3.all.filter s.fires) else none
  | .before => if s.launchReady then some (0, false, Idx3.all.filter s.fires) else none
  | .launched => if s.conf.alternating then some (4 * s.gapRef, true, s.shot) else none
  | .second => none
  | .repeating =>
    if s.repeatWaits then some (4 * s.repeatAt, false, s.shot)
    else if s.conf.alternating then some (4 * s.seq.altGap.toNat, true, s.shot)
    else none

/-- Step 1: the clamp of a pad that is to transmit is released 2 µs before the launch edge, and the driver holds it at XDGNDn. -/
def State.releasedFor (s : State) (p : Idx3) (side : Dir) (q : Int) : Bool :=
  match s.nextLaunch with
  | some (at_, second, ps) => ps.contains p && s.sends second side && decide (at_ - 192 ≤ q) && decide (q < at_)
  | none => false

/-- A launch has been made whose pads still transmit or listen. -/
def State.inLaunch (s : State) : Bool := s.inPair && !s.repeatWaits

/-- Steps 2 and 3: the Mica code, and two periods of damping; `none` once they are over (R168, R169, R171). -/
def Conf.transmit (c : Conf) (p : Idx3) (q : Int) : Option PadState :=
  let t := 2 * c.hq
  if q < (c.burst * t : Nat) then some (if c.burstHigh p q.toNat then .high else .low)
  else if q < ((c.burst + 2) * t : Nat) then some .low
  else none

/-- Steps 4 to 7: the pad listens until its lane is released. -/
def State.listens (s : State) (p : Idx3) (side : Dir) : PadState :=
  match (s.lane p side).phase with
  | .idle | .released => .clamped
  | .waiting | .searching | .armed | .counting | .stamping => .receive

/-- A transducer pad in RUN or IDLE: outside what Table 6.3 and R249 give it, and after a drive fault for the rest of the cycle (R170), it
stays on its 1 kΩ clamp. -/
def State.xdPad (s : State) (p : Idx3) (side : Dir) (q : Int) : PadState :=
  if (s.afe.get p).clamp.get side then .clamped
  else if s.releasedFor p side q then .low
  else if !(s.inLaunch && s.shot.contains p && decide (0 ≤ q)) then .clamped
  else if s.sends (s.seq.phase == .second) side then (s.conf.transmit p q).getD (s.listens p side)
  else s.listens p side

/-! ## Resistor pads (R75, Table 11.1) -/

/-- The resistor that a conversion set discharges through now: after the 40 µs of the dump and the 120 µs of the charge. -/
def State.discharges (s : State) (x : Option (Fin 4)) (i : PadInstant) : Bool :=
  match s.temp.set with
  | some q => q.left.head? == some x && decide (160 ≤ i.t)
  | none => false

/-- The read under way in S03. -/
def State.strapRead (s : State) (i : PadInstant) : Option StrapRead :=
  match s.start.input, i.read with
  | some x, some k => (strapReads x)[k]?
  | _, _ => none

/-- The resistor that S03 reads, joined to TSCAP after the 250 µs of the charge. -/
def State.reads (s : State) (r : StrapRead) (i : PadInstant) : Bool :=
  s.start.phase == .step 3 && s.strapRead i == some r && decide (250 ≤ i.t)

/-- TSCAP: charged and discharged in S03 and in a conversion set, held at TSCOM otherwise. -/
def State.tscapPad (s : State) (i : PadInstant) : PadState :=
  if s.start.phase == .step 3 then (if (s.strapRead i).isNone then .low else if i.t < 250 then .high else .discharging)
  else if s.temp.set.isSome then (if i.t < 40 then .low else if i.t < 160 then .high else .discharging)
  else .low

/-! ## Every pad -/

/-- The link pads: the bypass joins them, or the device is inserted. -/
def State.linkPads (s : State) : PadState := if s.phy.bypassClosed then .bypassed else .inserted

/-- The pulse pads are still sampled: up to S02. -/
def State.sampling (s : State) : Bool :=
  match s.start.phase with
  | .inReset | .delay => true
  | .step n => n ≤ 2
  | .basalt | .factory | .running => s.power.resetLow

/-- Supplied and out of OFF. -/
def PadColumn.live : PadColumn → Bool
  | .noSupply | .off => false
  | .reset | .awake | .sleep | .deep => true

/-- The 2 LF periods of the wake strobe, 61.0 µs; the wait for VCORE that follows shows the DEEP SLEEP column (Table 14.5 steps 1, 2). -/
def State.strobes (s : State) (i : PadInstant) : Bool := s.power.trans == .deepStrobe && decide (i.t < 61)

/-- VLINK3 is in regulation: from the line at 12 V or more, and from a power-fail warning on from VHOLD until it falls to 5.0 V, whatever
becomes of the warning (R61). -/
def State.vlink3 (s : State) (i : PadInstant) : Bool := i.line12 || s.phy.holdUp && i.vhold5

/-- MEMC transfers: an operation is in progress, or it releases the part and reloads the code SRAM at the exit from DEEP SLEEP (Table 14.5
steps 5 and 6). -/
def State.transfers (s : State) : Bool := s.mem.busy.isSome || s.power.trans == .deepReload && !s.hmc.on

/-- In Basalt mode the pads of R39 keep their states of reset and start whatever the power state, that of a stand-alone device in OFF
included (R158). -/
def State.basaltPad (s : State) (c : PadColumn) : Bool := s.inBasalt && c != .noSupply

/-- A pad of Table 2.3. -/
def State.pad (s : State) (i : PadInstant) (x : Pad) : PadState :=
  let c := s.padColumn i
  let measures := c == .awake && !s.inBasalt
  match x with
  | .xd p side => if s.basaltPad c then .clamped else if !c.live then .highZ else if measures then s.xdPad p side i.q else .clamped
  | .ts n => if measures && s.discharges (some n) i then .switched else .highZ
  | .tsref => if c.live && s.reads .tsref i || measures && s.discharges none i then .switched else .highZ
  | .tscap => if s.basaltPad c then .low else if !c.live then .highZ else s.tscapPad i
  | .cfg n => if c.live && s.reads (.cfg n) i then .switched else .highZ
  | .xin => if c != .noSupply && s.clk.refOn then .active else .stopped
  | .xout => if c == .noSupply then .stopped else if s.clk.refOn then .active
             else if c == .sleep || c == .deep || c == .off then .low else .stopped
  | .x32 => if s.bkd.alive then .active else .stopped
  | .prqCk => if c == .noSupply then .highZ else if c == .off then .pullDown
              else if s.strobes i then .high else if s.prq.req.isSome then .active else .low
  | .prqDa => if c == .noSupply then .highZ else if c == .off then .pullDown
              else if s.strobes i then .low else if s.prq.req.isSome then .active else .kept
  | .memCs => if !c.live then .highZ else if s.transfers then .active else .high
  | .memOut => if !c.live then .highZ else if s.transfers then .active else .low
  | .memDo => if !c.live then .highZ else .kept
  | .link => s.linkPads
  | .vlink3 => if s.vlink3 i then .high else .stopped
  | .strapTest => if c == .reset && s.sampling then .pullUp else .highZ
  | .tst => if !c.live then .highZ else .pullDown
  | .resetN => if c == .noSupply then .highZ else .pullUp
  | .wakeEvent => if s.bkd.alive then .inputNoPull else .stopped
  | .pwron => if s.bkd.alive && s.power.pwron then .high else .low
  | .faultN => if s.bkd.alive && s.bkd.faultLatch then .low else .highZ
  | .pulse b =>
    match c with
    | .noSupply | .off => .highZ
    | .reset => if s.sampling then .inputNoPull else .highZ
    | .awake => if s.inBasalt then .highZ else if (s.ee.pad b).phase == .high then .high else .low
    | .sleep | .deep => if s.inBasalt then .highZ else .low

end Sys2Proof.Machine
end

