-- ==== Sys2Proof/Safety.lean ====
section
/-!
DEFINITION. The terms in which claims are made: what stays the same from one state to another, what raising events leaves, and the
invariants of the device.
-/
namespace Sys2Proof.Machine

/-! ## Raising events -/

/-- The event arbiter after the events `es`, raised one after the other: each is granted at once while the core is awake, and waits
for the wake otherwise (R30, R32). -/
def State.arrivals (s : State) (es : List Event) : Eva :=
  es.foldl (fun v e => if s.awake then v.grant s.now e else v.postpone e) s.eva

/-- The second state is the first but for the event arbiter, MEMC's requests and the management core's vote (a grant that fills half the
event queue asks MEMC for a log write, during which HMC votes for RUN: R501, Table 14.2, R396); the memory's contents and parameters are
the same. -/
def LogsOnly (s t : State) : Prop :=
  t = { s with eva := t.eva,
               mem := { s.mem with busy := t.mem.busy, suspended := t.mem.suspended, queue := t.mem.queue },
               power := { s.power with hmc := t.power.hmc, idleTimer := t.power.idleTimer, state := t.power.state } } ∧
  (t.power.state = s.power.state ∨ (s.power.state = .idle ∧ t.power.state = .run))

/-- The second state is the first with the events `es` raised, and nothing else. -/
def Logs (es : List Event) (s t : State) : Prop := LogsOnly s t ∧ t.eva = s.arrivals es

/-! ## What stays the same -/

/-- Every byte of the external memory reads the same. -/
def SameMemory (s t : State) : Prop := ∀ a, t.mem.byte a = s.mem.byte a

/-- Every byte of the external memory reads the same but for the header of the bank of an image session that a reset closes (R511). -/
def ClosedMemory (s t : State) : Prop := ∀ a, t.mem.byte a = s.closedMem.byte a

/-- The management core is in reset; the record of its watchdog resets stays, and in OFF the watchdog's count (R496, log entry 85). -/
def HmcCleared (s t : State) : Prop :=
  t.hmc = { Hmc.reset with dogs := s.hmc.dogs, dogLog := s.hmc.dogLog, dog := if s.power.state = .off then s.hmc.dog else 0 }

/-- The billing registers, error times and residues of every pipe and loop are the same (Table 12.4). -/
def SameRegisters (s t : State) : Prop := t.ee.pipes = s.ee.pipes ∧ t.ee.loopA = s.ee.loopA ∧ t.ee.loopB = s.ee.loopB

/-- What measures is the same: AFE, TIU, flow engine, pulsation analyser, temperature and energy. -/
def SameMeasurement (s t : State) : Prop :=
  t.afe = s.afe ∧ t.tiu = s.tiu ∧ t.fe = s.fe ∧ t.ag = s.ag ∧ t.temp = s.temp ∧ t.ee = s.ee

/-- What a start reads and keeps is the same: fuses, straps, configuration and banks. -/
def SameSetup (s t : State) : Prop := t.fuse = s.fuse ∧ t.straps = s.straps ∧ t.conf = s.conf ∧ t.banks = s.banks

/-- The link's own state is the same: L-die, LNK and the chain head. -/
def SameLink (s t : State) : Prop := t.phy = s.phy ∧ t.lnk = s.lnk ∧ t.head = s.head

/-! ## Invariants -/

/-- The external memory is in its canonical form. -/
def MemoryInv (s : State) : Prop := s.mem.wf = true

/-- The lasting invariant of the device: the external memory in its canonical form, at most 64 records in the event queue (R501) and 16
events held by a start (R156), and the 25 words of the fuse array (R143). -/
def Inv (s : State) : Prop :=
  MemoryInv s ∧ s.eva.queue.length ≤ 64 ∧ s.eva.held.length ≤ 16 ∧ s.fuse.words.length = 25

/-- The fuse array only gains ones (R143, R144). -/
def FusesGrow (s t : State) : Prop :=
  ∀ k b, (s.fuse.words.getD k 0).getLsbD b = true → (t.fuse.words.getD k 0).getLsbD b = true

/-- The part that is fitted: its presence, identification, SFDP, size and failing ranges. -/
def SamePart (s t : State) : Prop :=
  t.mem.present = s.mem.present ∧ t.mem.sfdp = s.mem.sfdp ∧ t.mem.ident = s.mem.ident ∧ t.mem.fitted = s.mem.fitted ∧
  t.mem.bad = s.mem.bad

/-! ## Transactions -/

/-- A request of a type that reaches a device in normal operation and meets nothing in its way: heard, with good checks, to its own
address and not to everyone, of a fitting length, no repetition, with no relayed request outstanding, no power-fail save and no block or
commit that waits for MEMC, and the management core running (R455, R456, R457, R459, R463, R480, R482). -/
def Serves (s : State) (ty : BitVec 6) (f : Frame) : Prop :=
  s.hears = true ∧ f.dest = s.lnk.address ∧ (s.lnk.address ≠ addrUnassigned ∨ ty = typeAssign) ∧ f.dest ≠ addrBroadcast ∧
  sound ty f = true ∧ lengthFits ty f.payload = true ∧ s.repeated ty f = none ∧ s.head.outstanding = false ∧
  s.saveRuns = false ∧ s.mem.answerWaits = false ∧ s.start.phase ≠ .basalt ∧ s.hmc.on = true

/-- The response of a type and payload left for the requester from the address that the device holds now and is kept for a repetition
(R457, R459); nothing else of LNK changed. -/
def Answers (ty : BitVec 6) (f : Frame) (kind : BitVec 6) (p : List Byte) (s t : State) : Prop :=
  let x := Sent.frame f.src t.lnk.address kind f.seq p
  t.lnk = { s.lnk with address := t.lnk.address, sentLu := some x, cache := some ⟨f.src, ty, f.seq, x⟩ }

/-- The second state is the first after a frame of the polarity given that has no further effect (R435). -/
def Discards (f : Frame) (s t : State) : Prop := t = { s with phy := { s.phy with inverted := f.inverted } }

/-- A request has no effect but its response, the polarity of the line and the vote held while it was served (R482). -/
def OnlyAnswers (s t : State) : Prop :=
  t = { s with lnk := t.lnk, phy := t.phy, power := t.power } ∧
  t.phy = { s.phy with inverted := t.phy.inverted, dir := t.phy.dir } ∧
  t.power = { s.power with lnk := 2, hmc := t.power.hmc, idleTimer := t.power.idleTimer, state := t.power.state } ∧
  t.lnk.address = s.lnk.address

end Sys2Proof.Machine
end

