-- ==== Sys2Proof/Certificates/Slice0/Obligations.lean ====
section
/-!
DEFINITION. The statements for the provers, in the order of OBLIGATIONS.json. Each docstring says which rule of spec/ it formalises;
where a statement rests on a choice of the model it names the log entry.
-/
section
open Sys2Proof Sys2Proof.Machine

/-- For every state and command: with the command at the front of the queue, step answers what exec answers on the state with the rest of the queue, and that answer is a next state: no command of the table stops the machine. The queue is the form in which the model takes commands (log entry 2). (opcode_table.json.) -/
def Obligations.StepRunsFrontCommand : Prop :=
  ∀ (s : State) (c : Instr) (cs : List Instr),
    (s.pending = c :: cs → step s = exec c { s with pending := cs }) ∧
    ∃ t, exec c { s with pending := cs } = .next t ∧ t.pending = cs

/-- On an empty queue a step answers a next state in which one LF period has passed (the model's choice of log entry 11): subseconds count up to 32 768, the cycle timer counts while it runs, the snapshot's age holds at 0xFFFFFF, the watchdog counts up to 65 536 while the management core is out of reset in RUN, IDLE or SLEEP, and nothing else of the device but the age of the last conversion set and the counters of R18's presence check changes. While the reference is enabled and not declared these count the good edges of the period (held at 4096, from 0 again after a cycle that is not good), and its cycles in the 64 periods from the first good one; how many edges a period has is a free value (log entry 83). (R18, R240, R370, R371, R480, R496.) -/
def Obligations.EmptyQueueCountsOnePeriod : Prop :=
  ∀ s : State, s.pending = [] → s.bkd.alive = true → ∃ t, step s = .next t ∧
    t.bkd = { s.bkd with
      time := { s.bkd.time with subsec := if s.bkd.time.subsec.toNat < 32768 then s.bkd.time.subsec + 1 else s.bkd.time.subsec },
      devDiv := if s.bkd.devDiv.toNat < 32767 then s.bkd.devDiv + 1 else s.bkd.devDiv,
      timer := if s.bkd.timerOn then s.bkd.timer + 1 else s.bkd.timer,
      sessionAge := if s.bkd.shadow.isSome then s.bkd.sessionAge + 1 else s.bkd.sessionAge } ∧
    t.hmc = { s.hmc with dog := if s.dogRuns then min 65536 (s.hmc.dog + 1) else s.hmc.dog } ∧
    t.snap = { s.snap with ageLf := min 0xFFFFFF (s.snap.ageLf + 1) } ∧
    t.temp = { s.temp with age := t.temp.age } ∧ (t.temp.age.isSome = s.temp.age.isSome) ∧
    (s.clk.checks = false → t.clk = s.clk ∧ t.free = s.free) ∧
    (s.clk.refOn = true → s.clk.declared = false → t.free = s.free + 1 ∧ t.clk = { s.clk with presence := t.clk.presence } ∧
      let p := s.clk.presence
      let edges := Config.xinEdges s.free
      t.clk.presence.good = (if Config.xinBreaks s.free then 0 else min 4096 (p.good + edges)) ∧
      (p.periods = 0 → t.clk.presence = if t.clk.presence.good = 0 then ⟨0, 0, 0⟩ else ⟨t.clk.presence.good, 1, edges⟩) ∧
      (0 < p.periods → p.periods < 64 → t.clk.presence = ⟨t.clk.presence.good, p.periods + 1, p.cycles + edges⟩) ∧
      (p.periods = 64 → 46875 - 47 ≤ p.cycles → p.cycles ≤ 46875 + 47 →
        t.clk.presence = ⟨t.clk.presence.good, 64, p.cycles⟩)) ∧
    t = { s with bkd := t.bkd, hmc := t.hmc, snap := t.snap, temp := t.temp, clk := t.clk, free := t.free }

/-- BACKUP_POWER_ON with VBK lost puts the backup domain in its power-on reset and clears the Flint banks, the core, the link interface domain, the event arbiter and the latched flags (log entry 45), while the fuse array, the fitted part and every byte of the external memory stay, but for the header of the bank of an open image session (R511, log entry 29; Table 5.1). When VBK has recovered the domain leaves its reset with the values of Tables 13.2 and 5.6, the start to come has cause 0, and PWRON follows VBAT; nothing else changes. MAIN_POWER_ON drives PWRON low: core, link and Flint banks are cleared, the start to come has cause 1 unless a backup power-on (cause 0) still waits for its start (log entry 38), the record of watchdog resets stays (log entry 85), an open read session ends, a low-power entry whose commit edge has not come is dropped (log entry 44), and every other field of the backup domain but the strobe of a snapshot, the fuse array and the external memory, but for that header, stay. PWRON_HIGH drives PWRON high when the backup domain is alive and the device neither is in OFF nor has passed the edge of its entry to it, and changes nothing else; in OFF with a wake source held it drives PWRON high for that source with the reach of a main power-on (DEDUCED, log entry 96). (R128, R129, R131, Table 5.1, Table 13.1, R373, R388, R404.) -/
def Obligations.PowerOnResetsReach : Prop :=
  (
    ∀ s : State,
      (∃ t, exec (.backupPowerOn false) s = .next t ∧ t.bkd = { Bkd.reset with alive := false } ∧ t.eva = Eva.reset ∧
        t.ee = Ee.reset ∧ t.conf = Conf.reset ∧ t.straps = Straps.reset ∧ t.start = { Start.reset with cause := 0 } ∧
        t.flags = List.replicate 16 ⟨false, 0, 0⟩ ∧ t.hmc = Hmc.reset ∧ t.lnk.on = false ∧ t.phy.bypassClosed = true ∧
        t.phy.ins ≠ .inserted ∧ t.power.pwron = false ∧ t.power.heldTick = false ∧ t.power.heldMgmt = none ∧
        t.fuse.words = s.fuse.words ∧ ClosedMemory s t ∧ SamePart s t ∧ t.pending = s.pending) ∧
      (s.bkd.alive = false →
        exec (.backupPowerOn true) s = .next { s with
          bkd := Bkd.reset, start := { s.start with cause := 0 }, power := { s.power with pwron := s.power.vbatGood } })) ∧
  (
    ∀ s : State,
      (∃ t, exec .mainPowerOn s = .next t ∧
        t.bkd = { s.bkd with shadow := none, readers := 0, strobe := false, commits := s.bkd.commits.filter Commit.staged } ∧
        t.ee = Ee.reset ∧ t.conf = Conf.reset ∧ t.straps = Straps.reset ∧ t.fuse.words = s.fuse.words ∧ ClosedMemory s t ∧ SamePart s t ∧
        t.power.pwron = false ∧ t.power.vbatGood = false ∧ t.power.vbat27 = false ∧ t.clk.core = false ∧ HmcCleared s t ∧ t.phy.bypassClosed = true ∧
        t.start.phase = .inReset ∧ t.start.cause = (if s.start.phase = .inReset ∧ s.start.cause = 0 then 0 else 1) ∧
        t.eva.next = s.eva.next ∧ t.eva.last = s.eva.last ∧ t.eva.queue = [] ∧ t.flags = s.flags) ∧
      (let wakes := s.bkd.alive = true ∧ s.power.state = .off ∧ s.power.trans = .none ∧ s.offSource = true
       (¬ wakes → exec .pwronHigh s = .next { s with
          power := { s.power with vbatGood := true, vbat27 := true, pwron := s.power.pwron ||
            (s.bkd.alive && !(s.power.state == .off || s.power.trans == .lossWindow .off)) } }) ∧
       (wakes → ∃ t, exec .pwronHigh s = .next t ∧ t.power.pwron = true ∧ t.power.vbatGood = true ∧ t.start.phase = .inReset ∧
          t.start.cause = 1 ∧ t.ee = Ee.reset ∧ t.conf = Conf.reset ∧ t.fuse.words = s.fuse.words ∧ ClosedMemory s t ∧
          t.bkd.time = s.bkd.time)))

/-- VCORE_BROWN_OUT with an armed threshold, and RESET_N held low for 10 µs or more with VIO and VBAT (2.70 V or more) present in a device that is not in OFF, clear the core and the link interface domain and close the bypass; the Flint banks (billing registers, configuration, straps, calibration records, event queue), the backup domain but for its read session, the strobe of a snapshot and a low-power entry still to come (log entry 44), the latched flags (log entry 45), the record of watchdog resets (log entry 85), the fuse array and the memory, but for the header of the bank of an open image session (R511), stay, and the start to come has cause 2 or 3 (0 while a backup power-on still waits for its start, log entry 38). In OFF (log entry 38), and from the edge E of the entry to it, RESET_N raises PWRON, and the Flint banks, which had no supply, hold nothing. A RESET_N pulse shorter than 1 µs, and any pulse without VIO or with VBAT below 2.70 V or on its way back to it, changes nothing (that this holds while PWRON is still high too: DEDUCED, log entry 94). A pulse of 1 to 10 µs either changes nothing or acts exactly as one of 10 µs or more; which of the two is a free value (log entry 4), whose counter is the only thing that advances besides. (R57, R131, R373, R393, R409, R415, R501, Table 5.1.) -/
def Obligations.CoreResetsKeepFlintBanks : Prop :=
  (
    ∀ (s : State) (mv : Nat),
      let Reach := fun (cause : BitVec 3) (t : State) =>
        t.bkd = { s.bkd with shadow := none, readers := 0, strobe := false, commits := s.bkd.commits.filter Commit.staged } ∧
        t.fuse.words = s.fuse.words ∧ ClosedMemory s t ∧ SamePart s t ∧
        t.flags = s.flags ∧ t.clk.core = false ∧ HmcCleared s t ∧ t.seq = Seq.reset ∧ t.lnk.on = false ∧ t.phy.bypassClosed = true ∧
        t.phy.ins ≠ .inserted ∧ t.start.phase = .inReset ∧
        t.start.cause = (if s.start.phase = .inReset ∧ s.start.cause = 0 then 0 else cause)
      let Keeps := fun (t : State) =>
        SameRegisters s t ∧ t.ee.begin = s.ee.begin ∧ t.conf = s.conf ∧ t.straps = s.straps ∧ t.banks = s.banks ∧
        t.tiu.slots.map Slot.cal = s.tiu.slots.map Slot.cal ∧ t.eva.queue = s.eva.queue ∧ t.eva.next = s.eva.next ∧ t.fuse.uid = s.fuse.uid
      (s.prq.bor.isSome = true → ∃ t, exec .vcoreBrownOut s = .next t ∧ Reach 2 t ∧ Keeps t ∧ t.power.resetLow = s.power.resetLow) ∧
      (s.power.vbatGood = true → 2700 ≤ mv → s.power.state ≠ .off → s.power.trans ≠ .lossWindow .off →
        ∃ t, exec (.resetNAsserted .atLeast10us ⟨true, mv⟩) s = .next t ∧ Reach 3 t ∧ Keeps t ∧ t.power.resetLow = true ∧
          t.power.pwron = s.power.pwron) ∧
      (s.power.vbatGood = true → 2700 ≤ mv → (s.power.state = .off ∨ s.power.trans = .lossWindow .off) →
        ∃ t, exec (.resetNAsserted .atLeast10us ⟨true, mv⟩) s = .next t ∧ Reach 3 t ∧ t.power.resetLow = true ∧ t.power.pwron = true ∧
          t.ee = Ee.reset ∧ t.conf = Conf.reset ∧ t.straps = Straps.reset)) ∧
  (
    ∀ (s : State) (w : PulseWidth) (vio : Bool) (mv : Nat),
      exec (.resetNAsserted .below1us ⟨vio, mv⟩) s = .next s ∧
      ((vio = false ∨ mv < 2700 ∨ s.power.vbatGood = false) → exec (.resetNAsserted w ⟨vio, mv⟩) s = .next s) ∧
      (vio = true → 2700 ≤ mv → s.power.vbatGood = true →
        exec (.resetNAsserted .from1to10us ⟨vio, mv⟩) s = .next { s with free := s.free + 1 } ∨
        exec (.resetNAsserted .from1to10us ⟨vio, mv⟩) s = exec (.resetNAsserted .atLeast10us ⟨vio, mv⟩) { s with free := s.free + 1 }))

/-- When the core power-on reset, RESET_N or the restart delay ends and the supplies are good, the start controller begins a start: whatever the start then meets, the ledger holds its reset_cause (that of the reset, and 6 for a start failure restart), the fuse array and the fitted part are unchanged, and RESET_N is no longer held. (R57, R130, R145, R153, Table 5.6.) -/
def Obligations.StartRecordsItsCause : Prop :=
  ∀ (s : State) (i : StartIn), s.power.pwron = true → s.power.vbatGood = true → s.bkd.alive = true →
    let Started := fun (cause : BitVec 3) (t : State) =>
      t.bkd.ledger.resetCause = cause ∧ t.fuse.words = s.fuse.words ∧ SamePart s t ∧ t.power.resetLow = false ∧ t.pending = s.pending
    (s.start.phase = .inReset → s.power.resetLow = false → ∃ t, exec (.corePorRelease i) s = .next t ∧ Started s.start.cause t) ∧
    (s.start.phase = .inReset → s.power.resetLow = true → ∃ t, exec (.resetNReleased i) s = .next t ∧ Started s.start.cause t) ∧
    (s.start.phase = .delay → s.power.resetLow = false → ∃ t, exec (.restartDelayExpiry i) s = .next t ∧ Started 6 t)

/-- When step S04 reaches its limit while basalt is 0, the ledger takes step_failed 4, reason 0x30, the alternative bit of S04 and a fail_count one higher (held at 3), start_active falls, and a commit sets the FAULT_N latch. With fail_count 0 or 1 before, the commit waits and the device waits for its restart with the core and link reset; with 2 or 3 before, the latch is set and the device is in Basalt mode with the basalt bit set and measures no more, while the cycle timer runs on as it did (R240). The record of watchdog resets stays (log entry 85). (R153, R157, R240, R413, Table 5.5, Table 5.6.) -/
def Obligations.FailedStepRestartsOrLatchesBasalt : Prop :=
  ∀ (s : State) (i : StartIn) (c : RefCheck), s.start.phase = .step 4 → s.start.input = some i → s.bkd.commits = [] →
    s.bkd.ledger.basalt = false →
    ∃ t, exec (.stepTimeLimit c) s = .next t ∧
      t.bkd.ledger.stepFailed = 4 ∧ t.bkd.ledger.failReason = 0x30 ∧ t.bkd.ledger.startActive = false ∧
      t.bkd.ledger.altMask = s.bkd.ledger.altMask ||| 0x10 ∧
      t.bkd.ledger.failCount = (if s.bkd.ledger.failCount = 3 then 3 else s.bkd.ledger.failCount + 1) ∧
      (s.bkd.ledger.failCount.toNat ≤ 1 → t.start.phase = .delay ∧ t.bkd.ledger.basalt = false ∧
        t.hmc = { Hmc.reset with dogs := s.hmc.dogs, dogLog := s.hmc.dogLog, dog := t.hmc.dog } ∧
        t.lnk.on = false ∧ t.clk.core = false ∧ .faultLatch true ∈ t.bkd.commits) ∧
      (2 ≤ s.bkd.ledger.failCount.toNat → t.start.phase = .basalt ∧ t.bkd.ledger.basalt = true ∧ t.bkd.timerOn = s.bkd.timerOn ∧
        t.bkd.faultLatch = true ∧ t.hmc = { Hmc.reset with dogs := s.hmc.dogs, dogLog := s.hmc.dogLog } ∧
        t.seq = Seq.reset)

/-- In normal operation a watchdog reset that is not the third within 3600 device seconds restarts the management core alone: it runs with its watchdog at 0, its vote withdrawn and the reset noted to be logged; the third escalates to a start with cause 5 (log entry 85). AG (reset id 6) that stays in reset is logged and taken out of service. In Basalt mode LNK (id 7) of a member or head that stays in reset serves no more and the failure stands in the ledger as S11 with reason 0x70 (log entry 46); and a reference not declared within its limit is logged as absent (log entry 41), with reason 0x41 where its count is out of 46 875 ± 47 and 0x40 otherwise, and latched flag 14. (R18, R135, R159, R496, R507, Table 5.1.) -/
def Obligations.WatchdogAndBlockTimeouts : Prop :=
  ∀ s : State,
    (s.dogRuns = true → s.start.phase = .running → s.img = none →
      (let n := (s.hmc.dogs.filter (fun d => decide ((s.now - d).toNat ≤ 3600))).length + 1
       (n < 3 → ∃ t, exec .watchdogReset s = .next t ∧ t.hmc.on = true ∧ t.hmc.dog = 0 ∧ t.hmc.dogLog = s.hmc.dogLog + 1 ∧
          t.hmc.tickS = s.hmc.tickS ∧ t.hmc.dogs.length = n ∧ t.power.hmc = 2 ∧ t.start = s.start ∧ SameMeasurement s t ∧
          SameSetup s t ∧ SameLink s t ∧ t.bkd = s.bkd ∧ t.seq = s.seq ∧ t.mem = s.mem ∧ t.eva = s.eva) ∧
       (3 ≤ n → ∃ t, exec .watchdogReset s = .next t ∧ t.start.cause = 5 ∧ t.start.phase = .inReset ∧
          t.hmc = { Hmc.reset with dogs := t.hmc.dogs, dogLog := s.hmc.dogLog } ∧ t.hmc.dogs.length = n ∧
          SameRegisters s t ∧ SameMemory s t))) ∧
    (s.start.phase = .running → s.power.parked = none → s.power.latchedState = none → s.ag.analysing = false →
      ∃ t, exec (.clockReadyTimeout 6) s = .next t ∧
      Logs [⟨0x0A0D, [6]⟩] { s with
        start := { s.start with agOut := true },
        ag := { Ag.reset with outOfService := true, noResult := s.inSweep, abandoned := s.inSweep },
        seq := { s.seq with sweepDue := false } } t) ∧
    (s.start.phase = .basalt → s.role ≠ .standAlone → ∃ t, exec (.clockReadyTimeout 7) s = .next t ∧ t.lnk.on = false ∧
      t.lnk.address = s.lnk.address ∧ t.start = s.start ∧ SameMemory s t ∧ SameRegisters s t ∧
      (s.bkd.commits = [] → t.bkd.ledger = { s.bkd.ledger with stepFailed := 11, failReason := 0x70 } ∧
        t.bkd.commits = [.faultLatch true])) ∧
    (s.start.phase = .basalt → s.clk.refOn = true → s.clk.declared = false → s.clk.absent = false → ∀ c : RefCheck,
      let out := match c.count with
        | some n => decide (n < 46828) || decide (46922 < n)
        | none => false
      ∃ u, exec (.basaltReferenceLimit c) s = .next (occur flagRefLost u) ∧
        Logs [⟨0x0204, [if out then 0x41 else 0x40]⟩] { s with clk := { s.clk with absent := true } } u)

/-- RTC_SECOND in a living backup domain, whatever it shows of VBAT, advances the calendar by one second with its weekday, clears the subseconds and takes the next length by R379: the time of day counts in the 24-hour clock, and the date with months of 28 (29 in each year divisible by 4, 00 included), 30 and 31 days, to 00-01-01 after 99-12-31; the weekday goes on by one with the date, from Sunday to Monday. Where the instant entered is no alarm that fires, the wrap from year 99 to 00 is logged and nothing else changes. Where it is one (outside OFF and Basalt mode), the alarm flag is set without the late bit, the date is kept as last_fired, event 0x0104 with the instant arises, latched flag 6 occurs, one more save follows the next snapshot, and the alarm-clear group is requested once the event is granted. While a request is in flight, whether its edge is this one is a free value (log entry 82): where it is, the counting comes first and the request follows, and an alarm instant that a time commit overwrites does not fire by counting (in OFF only the request of a time group is looked at). (R369, R375, R379, R384, R386, R387, R391.) -/
def Obligations.CalendarSecondAdvances : Prop :=
  (∀ c : Cal, c.ok = true →
    let n := c.next
    let y := ofBcd c.year
    let m := ofBcd c.month
    let d := ofBcd c.date
    let days := if m = 2 then (if y % 4 = 0 then 29 else 28) else if m = 4 ∨ m = 6 ∨ m = 9 ∨ m = 11 then 30 else 31
    let tod := ofBcd c.hour * 3600 + ofBcd c.min * 60 + ofBcd c.sec
    n.ok = true ∧
    (tod < 86399 → (n.year, n.month, n.date) = (c.year, c.month, c.date) ∧ n.weekday = c.weekday ∧
      ofBcd n.hour * 3600 + ofBcd n.min * 60 + ofBcd n.sec = tod + 1) ∧
    (tod = 86399 → (n.hour, n.min, n.sec) = (0, 0, 0) ∧
      (ofBcd n.year, ofBcd n.month, ofBcd n.date) =
        (if d < days then (y, m, d + 1) else if m < 12 then (y, m + 1, 1) else if y < 99 then (y + 1, 1, 1) else (0, 1, 1)) ∧
      (¬ (y = 99 ∧ m = 12 ∧ d = 31) → n.weekday = if c.weekday = 7 then 1 else c.weekday + 1))) ∧
  (⟨0, 0, 0, 1, 1, 0⟩ : Cal).weekday = 6 ∧
  ∀ (s : State) (v : Bool), s.bkd.alive = true →
    let c := s.bkd.time.cal.next
    let n := nextLength s.bkd.compPpb s.bkd.accPs s.bkd.time.lfIsRc
    let b : Bkd := { s.bkd with time := { s.bkd.time with cal := c, weekday := c.weekday, subsec := 0 }, lenLf := n.1, accPs := n.2 }
    let fires := c.isAlarm s.bkd.alarm && s.alarmFires c
    let counted : State := { s with bkd := b, free := s.free + 1, power := { s.power with vbat27 := v } }
    let wrap : List Event := if s.bkd.time.cal.year = 0x99 ∧ c.year = 0 then [⟨0x0103, [0]⟩] else []
    let fired : State → Prop := fun t =>
      t.bkd = { b with time := { b.time with alarmFlag := true, alarmLate := false }, lastFired := (c.year, c.month, c.date),
                       commits := if s.awake && s.hmc.on && s.eva.waiting.all (fun e => e.code != 0x0104) &&
                                     !s.bkd.commits.contains .alarmClear
                                  then s.bkd.commits ++ [.alarmClear] else s.bkd.commits } ∧
      t.flags = s.flags.set 6 (s.flags.getD 6 ⟨false, 0, 0⟩).occur ∧
      t.eva = s.arrivals (wrap ++ [⟨0x0104, arg (c.hour.toNat * 2 ^ 24 + c.min.toNat * 2 ^ 16 + c.sec.toNat * 2 ^ 8)⟩]) ∧
      t.save = { s.save with dueAfterSnap := s.save.dueAfterSnap + 1 } ∧ SameMemory s t ∧ t.ee = s.ee
    (s.bkd.commits = [] →
      (fires = false → ∃ t, exec (.rtcSecond v) s = .next t ∧ Logs wrap counted t) ∧
      (fires = true → s.power.state ≠ .off → s.basaltMode = false → ∃ t, exec (.rtcSecond v) s = .next t ∧ fired t)) ∧
    (∀ k cs, s.bkd.commits = k :: cs → s.power.state ≠ .off ∨ (∃ x, k = .time x) → ∃ u,
      exec (.rtcSecond v) s =
        (if Config.sharesEdge s.free then exec (if k = .freeze then .freezeEdge else .bkdCommit) u else .next u) ∧
      ((fires = false ∨ (Config.sharesEdge s.free = true ∧ ∃ x, k = .time x)) → Logs wrap counted u) ∧
      (fires = true → ¬ (Config.sharesEdge s.free = true ∧ ∃ x, k = .time x) → s.power.state ≠ .off → s.basaltMode = false →
        fired u))

/-- DEVICE_SECOND in a living backup domain adds 1 to device_s and restarts its divider; a VBK reading that is not below the threshold ends the run of low checks, and the second low check in a row sets LBF with event 0x0105 and latched flag 7 when LBF was clear. The calendar and the cycle timer are not touched. (R370, Table 13.5.) -/
def Obligations.DeviceSecondAndLowBattery : Prop :=
  ∀ (s : State) (low : Bool) (mv : BitVec 16), s.bkd.alive = true →
    let n : BitVec 2 := if low then (if s.bkd.lbfBelow = 0 then 1 else 2) else 0
    let sets := n == 2 && !s.bkd.time.lbf
    let s' : State := { s with bkd := { s.bkd with
      devDiv := 0, lbfBelow := n, time := { s.bkd.time with deviceS := s.bkd.time.deviceS + 1, lbf := s.bkd.time.lbf || sets } } }
    (sets = false → exec (.deviceSecond low mv) s = .next s') ∧
    (sets = true → ∃ u, exec (.deviceSecond low mv) s = .next (occur flagLbf u) ∧ Logs [⟨0x0105, arg mv.toNat⟩] s' u)

/-- For every accumulator and every comp_ppb of at most 200 000 in magnitude with no overflow of 32 bits, on the crystal: the new accumulator plus the periods (30 517 578 ps each) that the length of the next second differs from 32 768 is the old accumulator plus comp_ppb × 1000, and the length is 32 767, 32 768 or 32 769. On the backup RC the length is 32 768 and the accumulator stays. (R379, R380.) -/
def Obligations.CompensationConservesTime : Prop :=
  ∀ (comp : BitVec 24) (acc : BitVec 32), comp.toInt.natAbs ≤ 200000 → acc.toInt.natAbs ≤ 1900000000 →
    let r := nextLength comp acc false
    r.2.toInt + ((r.1.toNat : Int) - 32768) * 30517578 = acc.toInt + comp.toInt * 1000 ∧
    (r.1 = 32767 ∨ r.1 = 32768 ∨ r.1 = 32769) ∧ nextLength comp acc true = (32768, acc)

/-- A freeze request at its turn in the commit handshake copies every field of Table 13.2 into the shadows for the readers that wait (a request whose readers have gone copies nothing), and nothing else changes; before its turn no freeze edge has effect. While the session is open the live registers count on and the shadows stay as copied (outside OFF; on an edge that is not also a commit edge, log entry 82); at its limit the session ends for every reader. (R371, R373, R375, Table 13.2, Table 13.3.) -/
def Obligations.ReadSessionFreezes : Prop :=
  ∀ (s : State) (v : Bool), s.bkd.alive = true →
    (∀ cs, s.bkd.commits = .freeze :: cs →
      exec .freezeEdge s = .next { s with bkd :=
        if s.bkd.readers = 0 then { s.bkd with commits := cs }
        else { s.bkd with commits := cs, shadow := some s.bkd.time, sessionAge := 0 } }) ∧
    (s.bkd.commits.head? ≠ some .freeze → exec .freezeEdge s = .next s) ∧
    (s.power.state ≠ .off → s.bkd.commits = [] ∨ Config.sharesEdge s.free = false → ∃ t, exec (.rtcSecond v) s = .next t ∧
      t.bkd.shadow = s.bkd.shadow ∧ t.bkd.time.cal = s.bkd.time.cal.next ∧ t.bkd.time.deviceS = s.bkd.time.deviceS) ∧
    (∀ low mv, ∃ t, exec (.deviceSecond low mv) s = .next t ∧ t.bkd.shadow = s.bkd.shadow ∧ t.bkd.time.cal = s.bkd.time.cal ∧
      t.bkd.time.deviceS = s.bkd.time.deviceS + 1) ∧
    (s.bkd.shadow.isSome = true → exec .sessionLimit s = .next { s with bkd := { s.bkd with shadow := none, readers := 0 } })

/-- When the crystal is good the LF source leaves the backup RC and OSF keeps its value; when the crystal stops the LF source is the backup RC and OSF is set. Each switch is logged as event 0x0101 and nothing else changes. In a device that is asleep or in a transition (outside OFF), WAKE high leaves a held request and clears a park, and a matcher hit in link supply leaves a held request; beside what the command shows of VBAT nothing else changes. The matcher hits on a frame to the own address and on a broadcast STATE; any other frame changes nothing. In OFF at 2.70 V or above each of the two raises PWRON, and the core, link and Flint banks are reset; below 2.70 V it is only held. A filtered EVENT edge of a selected polarity raises event 0x0106 and latched flag 5; its latch stands as a wake source in a device that is asleep or in a transition, and is taken at once by one that is awake. An edge of another polarity is only taken as the new level, and none counts between E and E + 4 of an entry. (R363, R388, R389, R404, R405, R406, R407, R486, Table 14.7.) -/
def Obligations.LfSourceAndWakeInputs : Prop :=
  (
    ∀ s : State, s.bkd.alive = true →
      (s.bkd.time.lfIsRc = true → ∃ t, exec .crystalGood s = .next t ∧
        Logs [⟨0x0101, [0]⟩] { s with bkd := { s.bkd with time := { s.bkd.time with lfIsRc := false } } } t) ∧
      (s.bkd.time.lfIsRc = false → ∃ t, exec .crystalStopped s = .next t ∧
        Logs [⟨0x0101, [1]⟩] { s with bkd := { s.bkd with time := { s.bkd.time with lfIsRc := true, osf := true } } } t)) ∧
  (
    ∀ (s : State) (v : Bool), s.bkd.alive = true →
      (s.holdsWake = true → (s.power.state ≠ .off ∨ s.power.trans ≠ .none ∨ v = false) →
        exec (.wakeInput v) s = .next { s with power := { s.power with heldWake := true, parked := none, vbat27 := v } }) ∧
      (s.power.state = .off → s.power.trans = .none → s.power.vbatGood = true → s.clk.core = false → v = true →
        ∃ t, exec (.wakeInput v) s = .next t ∧ t.power.pwron = true ∧ t.power.heldWake = true ∧ t.start.phase = .inReset ∧
          t.start.cause = 1 ∧ t.ee = Ee.reset ∧ t.fuse.words = s.fuse.words ∧ ClosedMemory s t ∧ t.bkd.time = s.bkd.time) ∧
      (∀ f : HeardFrame,
        let hit := (f.dest = s.lnk.address ∧ f.dest ≠ addrBroadcast) ∨ (f.dest = addrBroadcast ∧ f.type = typeState)
        (¬ hit → exec (.matcherHit f v) s = .next s) ∧
        (hit → s.holdsWake = true → s.linkSupply = true → (s.power.state ≠ .off ∨ s.power.trans ≠ .none ∨ v = false) →
          exec (.matcherHit f v) s = .next { s with power := { s.power with heldMatcher := true, vbat27 := v } }) ∧
        (hit → s.power.state = .off → s.power.trans = .none → s.power.vbatGood = true → s.clk.core = false → s.linkSupply = true →
          v = true → ∃ t, exec (.matcherHit f v) s = .next t ∧ t.power.pwron = true ∧ t.power.heldMatcher = true ∧
            t.start.phase = .inReset ∧ t.ee = Ee.reset ∧ t.fuse.words = s.fuse.words ∧ t.bkd.time = s.bkd.time)) ∧
      (∀ rising : Bool, s.bkd.eventLevel ≠ rising → s.inLossWindow = false →
        let s' : State := { s with bkd := { s.bkd with eventLevel := rising } }
        (selectsEdge s.bkd.eventEdge rising = false → exec (.eventEdge rising) s = .next s') ∧
        (selectsEdge s.bkd.eventEdge rising = true → s.bkd.eventLatch = false →
          ∃ u, exec (.eventEdge rising) s = .next (occur flagEvent u) ∧
            Logs [⟨0x0106, arg rising.toNat⟩]
              { s' with bkd := { s'.bkd with eventLatch := !s.awake || s.power.trans != .none } } u)) ∧
      (s.inLossWindow = true → ∀ rising : Bool, exec (.eventEdge rising) s = .next s))

/-- BKD_COMMIT takes the oldest request and leaves the others in their order; a freeze request raised before goes first. A group other than time and the power entry changes its own registers and nothing else. A time group sets calendar and weekday, clears subseconds and OSF and logs the old and the new time, and leaves device_s, the cycle timer, the accumulator and the length of the second under way; the alarm rules follow (here with no alarm set). The commit of a power entry is its edge E: the clocks stop and the read session ends; the presence check of the reference is ended, for DEEP SLEEP and OFF the code SRAM is lost, and for OFF PWRON falls and the brown-out threshold is disarmed. (R373, R375, R376, R393, R400, R415, Table 13.5, Table 4.19.) -/
def Obligations.CommitsTakeEffectInOrder : Prop :=
  ∀ (s : State) (c : Commit) (cs : List Commit), s.bkd.alive = true → s.bkd.commits = c :: cs →
    let b : Bkd := { s.bkd with commits := cs }
    match c with
    | .time n => s.bkd.alarm.mode = 0 → ∃ t, exec .bkdCommit s = .next t ∧
        Logs [⟨0x0102, timeWords s.bkd.time.cal n⟩]
          { s with bkd := { b with time := { b.time with cal := n, weekday := n.weekday, subsec := 0, osf := false } } } t
    | .alarm a src => exec .bkdCommit s = .next { s with bkd := { b with alarm := a, alarmSrc := src } }
    | .alarmClear => exec .bkdCommit s = .next { s with bkd := { b with time := { b.time with alarmFlag := false, alarmLate := false } } }
    | .compensation v => exec .bkdCommit s = .next { s with bkd := { b with compPpb := BitVec.ofInt 24 v } }
    | .ledger l => exec .bkdCommit s = .next { s with bkd := { b with ledger := l } }
    | .strapCopy k => exec .bkdCommit s = .next { s with bkd := { b with strapCopy := some k } }
    | .address a => exec .bkdCommit s = .next { s with bkd := { b with address := some a } }
    | .alive a => exec .bkdCommit s = .next { s with bkd := { b with aliveS := some a } }
    | .claim h => exec .bkdCommit s = .next { s with bkd := { b with claimRec := h } }
    | .faultLatch v => exec .bkdCommit s = .next { s with bkd := { b with faultLatch := v } }
    | .lbfClear => exec .bkdCommit s = .next { s with bkd := { b with time := { b.time with lbf := false } } }
    | .eventEdge k => exec .bkdCommit s = .next { s with bkd := { b with eventEdge := k } }
    | .freeze => exec .bkdCommit s = .next s
    | .strobe => exec .bkdCommit s = .next { s with bkd := { b with strobe := true } }
    | .entry p => exec .bkdCommit s = .next { s with
        clk := { s.clk with core := false, onRef := false, refOn := false, declared := false, presence := ⟨0, 0, 0⟩ },
        bkd := { b with shadow := none, readers := 0, commits := cs.filter (· != .freeze) },
        power := { s.power with trans := .lossWindow p, idleTimer := false, pwron := s.power.pwron && p != .off },
        banks := if p = .sleep then s.banks else { s.banks with code := [] },
        prq := if p = .off then { s.prq with bor := none, vcore := 0, vdrv := false } else s.prq }

/-- For a time group whose commit moves the calendar across an alarm instant that may fire (alarm mode 1, OSF clear before), outside OFF, the alarm flag is set with the late bit; where the new time is itself the alarm instant the flag is set without it. Outside Basalt mode each firing makes one save after the next snapshot. Before a start has read the straps the role in the strap copy decides whether OSF blocks the alarm (DESIGN CHOICE, log entry 61). (R376, R384, R385, R387.) -/
def Obligations.TimeSetAcrossAlarmFires : Prop :=
  (∀ (s : State) (x : StrapCopy), s.strapsRead = false → s.bkd.strapCopy = some x → s.bkd.time.osf = true →
    roleOf x.codes.head? ≠ .standAlone → ∀ c : Cal, s.alarmFires c = false) ∧
  ∀ (s : State) (n : Cal) (cs : List Commit), s.bkd.alive = true → s.bkd.commits = .time n :: cs → s.bkd.alarm.mode = 1 →
    s.bkd.time.osf = false → s.power.state ≠ .off → s.basaltMode = false →
    (∀ i, lateInstant s.bkd.alarm s.bkd.time.cal n = some i → n.isAlarm s.bkd.alarm = false →
      ∃ t, exec .bkdCommit s = .next t ∧ t.bkd.time.alarmFlag = true ∧ t.bkd.time.alarmLate = true ∧ t.bkd.lastFired = i.dateKey ∧
        t.bkd.time.cal = n ∧ t.save.dueAfterSnap = s.save.dueAfterSnap + 1) ∧
    (n.isAlarm s.bkd.alarm = true →
      ∃ t, exec .bkdCommit s = .next t ∧ t.bkd.time.alarmFlag = true ∧ t.bkd.time.alarmLate = false ∧ t.bkd.lastFired = n.dateKey ∧
        t.bkd.time.cal = n ∧
        t.save.dueAfterSnap = s.save.dueAfterSnap + (if (lateInstant s.bkd.alarm s.bkd.time.cal n).isSome then 2 else 1))

/-- VOTE_RAISED completes for every state, client and vote. A vote not lower than the one held changes nothing; a lower one is taken: in a device that no park and no transition holds it stops the idle timer and brings IDLE to RUN when the target becomes RUN (a vote of LNK below what its standing vote and a STATE request already hold asks for nothing more), and nothing else changes. IDLE_TIMER_EXPIRY with the timer running and no power-fail warning enters IDLE at target IDLE; at target SLEEP it sends the 0.75 V request of Table 14.4 with VDRV off under the next tag, or waits for MEMC and the request in progress; otherwise, and during a warning, it changes nothing. LOSS_WINDOW_END at E + 4 completes the entry to SLEEP, DEEP SLEEP or OFF and takes the present EVENT level as the reference; a WAKE that is pending clears the park, that of a STATE latched in the transition too, whose target is in force otherwise; with a wake source held in OFF PWRON rises at once at 2.70 V or above, and not below; with no window open it changes nothing. That the brown-out level falls where the request is sent is R415 as log entry 47 reads it (DEDUCED). (R388, R394, R396, R399, R405, R406, R408, R410, R415, Table 12.6, Table 14.4, Table 14.7.) -/
def Obligations.VotesAndIdleTimer : Prop :=
  ∀ s : State,
    (∀ (c : Client) (run : Bool),
      let v : BitVec 2 := if run then 0 else 1
      let p : Power := s.power.setVote c v
      exec (.voteRaised c run) s = .next (
        if ¬ v.toNat < (s.power.vote c).toNat then s
        else if s.power.trans = .none ∧ s.power.parked = none ∧ (c ≠ .lnk ∨ p.lnkVote < s.power.lnkVote) then
          { s with power := { p with idleTimer := false, state := if s.power.state = .idle ∧ p.target = 0 then .run else s.power.state } }
        else { s with power := p })) ∧
    (s.timerRuns = true → s.seq.pfStop = false →
      (s.power.target = 0 → exec .idleTimerExpiry s = .next { s with power := { s.power with idleTimer := false } }) ∧
      (s.power.target = 1 → exec .idleTimerExpiry s = .next { s with power := { s.power with idleTimer := false, state := .idle } }) ∧
      (s.power.target = 2 → s.mem.busy = none → s.prq.req = none → exec .idleTimerExpiry s = .next { s with
        power := { s.power with idleTimer := false, trans := .entryPrq .sleep },
        prq := { s.prq with tag := s.prq.tag + 1, req := some ⟨requestWord 1 false 0 s.prq.tag, .entry .sleep, false⟩,
                            bor := s.prq.bor.map (fun l => if 1 < l.toNat then 1 else l) } }) ∧
      (s.power.target = 2 → (s.mem.busy.isSome = true ∨ s.prq.req.isSome = true) → exec .idleTimerExpiry s = .next { s with
        power := { s.power with idleTimer := false, trans := .entryMemc .sleep } })) ∧
    ((s.timerRuns = false ∨ s.seq.pfStop = true) → exec .idleTimerExpiry s = .next s) ∧
    (∀ (p : PState) (high v : Bool), s.power.trans = .lossWindow p →
      let there : State := { s with
        power := { s.power with state := p, trans := .none, vbat27 := v, parked := if s.power.heldWake then none else s.power.parked,
                                serving := s.power.serving && !s.power.heldWake },
        bkd := { s.bkd with eventLevel := high } }
      (s.power.latchedState = none → (p ≠ .off ∨ s.offSource = false) → exec (.lossWindowEnd high v) s = .next there) ∧
      (s.power.latchedState = none → p = .off → s.offSource = true → (s.power.vbatGood = false ∨ v = false) →
        exec (.lossWindowEnd high v) s = .next { there with power := { there.power with parked := none } }) ∧
      (s.power.latchedState = none → p = .off → s.offSource = true → s.power.vbatGood = true → v = true →
        ∃ t, exec (.lossWindowEnd high v) s = .next t ∧ t.power.pwron = true ∧ t.start.phase = .inReset ∧ t.bkd.eventLevel = high ∧
          t.bkd.time = s.bkd.time ∧ t.fuse.words = s.fuse.words ∧ ClosedMemory s t) ∧
      (∀ n, s.power.latchedState = some n → (p = .sleep ∨ p = .deep) → ∃ t, exec (.lossWindowEnd high v) s = .next t ∧
        t.power.state = p ∧ t.power.trans = .none ∧ t.power.latchedState = none ∧
        t.power.parked = (if s.power.heldWake then none else if n = 3 then some .deep else if n = 4 then some .off else none) ∧
        t = { there with power := t.power })) ∧
    (∀ high v : Bool, (∀ p, s.power.trans ≠ .lossWindow p) → exec (.lossWindowEnd high v) s = .next s)

/-- WAKE_FROM_SLEEP in SLEEP with a source standing and no failure under way starts the core on the RC with the reference enabled, takes the held tick, WAKE and matcher requests, begins the exit, sends one request for 0.90 V, with VDRV exactly when a cycle tick was held that may begin a cycle, and grants the events that waited; then SEQ begins its cycle and opens its read session. The billing registers, the memory and the set-up stay. (R17, R32, R374, R401, R410, Table 14.7.) -/
def Obligations.WakeFromSleepRequestsVoltage : Prop :=
  ∀ s : State, s.power.state = .sleep → s.power.trans = .none → s.sleepSource = true → s.power.fail = none → s.prq.req = none →
    s.seq.phase = .none →
    let tick := s.power.heldTick && s.power.parked.isNone && !s.seq.pfStop
    ∃ t, exec .wakeFromSleep s = .next t ∧ t.power.state = .run ∧ t.power.trans = .exitSleep ∧
      t.clk = { s.clk with core := true, onRef := false, declared := false, refOn := true } ∧
      t.power.heldTick = false ∧ t.power.heldWake = false ∧ t.power.heldMatcher = false ∧
      (∃ r, t.prq.req = some r ∧ selOf r.word = 2 ∧ enOf r.word = tick ∧ tagOf r.word = s.prq.tag ∧ r.second = false) ∧
      t.prq.tag = s.prq.tag + 1 ∧ t.eva.waiting = [] ∧
      t.seq.phase = (if tick then .before else .none) ∧
      t.bkd.readers = (if tick then s.bkd.readers + 1 else s.bkd.readers) ∧
      (tick = true → s.bkd.shadow = none → .freeze ∈ t.bkd.commits) ∧
      t.ee = s.ee ∧ t.temp = s.temp ∧ t.fe = s.fe ∧ SameMemory s t ∧ SameSetup s t ∧ SameLink s t

/-- WAKE_RETRY_TIMER in SLEEP starts the next attempt, which asks for 0.90 V only: neither the reference nor VDRV. DEEP_SLEEP_WAKE_STROBE takes the source named (or a STATE target that leaves DEEP SLEEP) and begins the exit; Flint banks that have not held have lost their registers, the event queue and the open hours (R503, R540), and nothing else changes. VCORE_STROBE_TIMEOUT is a failed wake: step_failed 4 and reason 0x30 go to the ledger, fail_count stays, event 0x0201 and latched flag 15 arise, the FAULT_N latch is requested, and the device enters DEEP SLEEP again; that this entry begins at its edge E is the inference of log entry 76; the code SRAM is empty with it (R393). A retry in SLEEP is stated with no direct test under way. (R393, R402, R405, R408, R417, R418, R503, Table 14.5, Table 14.7.) -/
def Obligations.FailedWakesAndDeepExit : Prop :=
  ∀ s : State,
    (∀ f, s.power.fail = some f → s.power.trans = .none → s.prq.req = none → s.power.state = .sleep →
      s.tiu.testing = false →
      ∃ t, exec .wakeRetryTimer s = .next t ∧ t.power.fail = some { f with attempt := f.attempt + 1 } ∧
        t.clk = { s.clk with core := true, onRef := false, declared := false, refOn := false } ∧ t.power.trans = .exitSleep ∧
        (∃ r, t.prq.req = some r ∧ selOf r.word = 2 ∧ enOf r.word = false ∧ r.second = false) ∧
        t.seq = s.seq ∧ SameMemory s t ∧ SameMeasurement s t) ∧
    (∀ (w : WakeSource) (held : Bool), s.power.state = .deep → s.power.trans = .none →
    (s.deepSource w = true ∨ s.power.parked ≠ some .deep) →
      let b : State := if held then s else { s with
        ee := Ee.reset, eva := { s.eva with queue := [], dropped := 0 },
        fe := { s.fe with pipes := s.fe.pipes.map (fun p => { p with hourAt := none, hourCount := 0, hourClosed := [] }) } }
      exec (.deepSleepWakeStrobe ⟨w, held⟩) s = .next { b with power := { s.power with
        trans := .deepStrobe, serving := w == .matcher, heldWake := s.power.heldWake && w != .wakePin,
        heldMatcher := s.power.heldMatcher && w != .matcher } }) ∧
    (s.power.trans = .deepStrobe → ∃ t, exec .vcoreStrobeTimeout s = .next t ∧ t.power.trans = .lossWindow .deep ∧
      t.clk = { s.clk with core := false, onRef := false, refOn := false, declared := false, presence := ⟨0, 0, 0⟩ } ∧
      t.power.fail = some (s.power.fail.getD ⟨0, .deep, s.now, 0x30⟩) ∧
      t.ledger = { s.ledger with stepFailed := 4, failReason := 0x30 } ∧ .faultLatch true ∈ t.bkd.commits ∧
      t.flags = s.flags.set 15 (s.flags.getD 15 ⟨false, 0, 0⟩).occur ∧
      t.eva = s.arrivals [⟨0x0201, arg (0x30 * 2 ^ 24 + (s.power.fail.elim 0 WakeFail.attempt) % 256)⟩] ∧
      t.bkd.time = s.bkd.time ∧ SameMemory s t ∧
      SameMeasurement s t ∧ SameLink s t ∧ t.fuse = s.fuse ∧ t.straps = s.straps ∧ t.conf = s.conf ∧
      t.banks = { s.banks with code := [] })

/-- For every level, VDRV enable, code and tag the 16-bit request word begins with 0b10, carries vcore_sel, vdrv_en, vdrv_code and tag in their bits, and has an odd number of ones. (R410, Table 14.9.) -/
def Obligations.RequestWordsAreWellFormed : Prop :=
  ∀ (sel : BitVec 2) (en : Bool) (code : BitVec 7) (tag : BitVec 3),
    let w := requestWord sel en code tag
    w.extractLsb' 14 2 = 2 ∧ selOf w = sel ∧ enOf w = en ∧ w.extractLsb' 4 7 = code ∧ tagOf w = tag ∧ ones w % 2 = 1

/-- For every request word and status byte: the poll acknowledges exactly when its parity is odd, tag_echo is the tag sent, vcore_ok and vdrv_ok are 1 and refused and fault are 0; it refuses exactly when its parity is odd, the tag is right and refused is set; every other poll is no answer, and PRQ_POLL with such a poll changes nothing. (R412, Table 14.10.) -/
def Obligations.PollsAnswerRequests : Prop :=
  ∀ (s : State) (r : PrqReq) (x : Byte), s.prq.req = some r →
    let right := ones x % 2 = 1 ∧ x.extractLsb' 5 3 = tagOf r.word
    (pollOf r.word x = .ack ↔ right ∧ x.getLsbD 4 = true ∧ x.getLsbD 3 = true ∧ x.getLsbD 2 = false ∧ x.getLsbD 1 = false) ∧
    (pollOf r.word x = .refused ↔ right ∧ x.getLsbD 2 = true) ∧
    (¬ (right ∧ ((x.getLsbD 4 = true ∧ x.getLsbD 3 = true ∧ x.getLsbD 1 = false) ∨ x.getLsbD 2 = true)) →
      exec (.prqPoll x) s = .next s)

/-- PRQ_POLL that acknowledges the request of an entry takes the level and VDRV, the brown-out level where it is armed, and requests the entry commit of the backup domain; nothing else changes, and a wake failure under way goes on (R418). PRQ_ANSWER_TIMEOUT on the first attempt sends the same request once more under the next tag. On the second attempt of a downward request (an entry), and when such a request is refused, the device logs event 0x0203 with latched flag 15 and goes on as if acknowledged, without the FAULT_N latch. An acknowledged attempt to wake ends a failure under way: ledger 0xF and 0x00, event 0x0202 with its seconds. (R412, R413, R414, R415, R418, Table 14.4.) -/
def Obligations.RequestsEndOrRepeat : Prop :=
  ∀ (s : State) (r : PrqReq), s.prq.req = some r →
    let done := fun (s : State) (p : PState) => ({ s with
      prq := { s.prq with req := none, vcore := selOf r.word, vdrv := enOf r.word, bor := s.prq.bor.map (fun _ => selOf r.word) },
      power := { s.power with trans := .entryCommit p }, bkd := { s.bkd with commits := s.bkd.commits ++ [.entry p] } } : State)
    (∀ (p : PState) (x : Byte), r.why = .entry p → s.seq.phase = .none → pollOf r.word x = .ack →
      exec (.prqPoll x) s = .next (done s p)) ∧
    (r.second = false → ∃ t, exec .prqAnswerTimeout s = .next t ∧
      t.prq.req = some ⟨requestWord (selOf r.word) (enOf r.word) (if enOf r.word then s.conf.vdrvCode else 0) s.prq.tag, r.why, true⟩ ∧
      t.prq.tag = s.prq.tag + 1 ∧ t.prq.vcore = s.prq.vcore ∧ t.prq.vdrv = s.prq.vdrv ∧ t = { s with prq := t.prq }) ∧
    (∀ p : PState, r.why = .entry p → s.seq.phase = .none → s.prq.upward r.word = false →
      ∃ u, Logs [⟨0x0203, arg ((selOf r.word).toNat * 4096)⟩] s u ∧
        (r.second = true → exec .prqAnswerTimeout s = .next (done (occur flagWakeFail u) p)) ∧
        (∀ x : Byte, pollOf r.word x = .refused → exec (.prqPoll x) s = .next (done (occur flagWakeFail u) p))) ∧
    (∀ (f : WakeFail) (x : Byte), r.why = .retry → s.power.fail = some f → s.power.trans = .none → s.seq.phase = .none →
      s.power.heldMgmt = none → s.power.parked = none → s.power.latchedState = none →
      pollOf r.word x = .ack → ∃ t, exec (.prqPoll x) s = .next t ∧ t.power.fail = none ∧ t.prq.req = none ∧
        t.prq.vcore = selOf r.word ∧ t.ledger = { s.ledger with stepFailed := 0xF, failReason := 0 } ∧
        t.eva = s.arrivals [⟨0x0202, arg (s.now - f.sinceS).toNat⟩] ∧ t.seq = s.seq ∧ SameMeasurement s t)

/-- When the request of a wake from SLEEP is refused, or its second attempt gets no answer, step_failed 4 and reason 0x31, or 0x30, go to the ledger with fail_count, start_active and alt_mask untouched, event 0x0201 and latched flag 15 arise, the FAULT_N latch is requested, the failure is kept for the retries, a cycle that had begun is dropped, and the device enters SLEEP again. (R413, R417, Table 14.4.) -/
def Obligations.UpwardRequestFailsTheWake : Prop :=
  ∀ (s : State) (r : PrqReq) (tick : Bool), s.prq.req = some r → r.why = .wake tick →
    s.prq.upward r.word = true → s.power.fail = none → s.mem.busy = none → s.awake = true →
    (s.seq.phase = .none ∨ s.seq.phase = .before) →
    let Fails := fun (reason : Byte) (t : State) =>
      t.ledger = { s.ledger with stepFailed := 4, failReason := reason } ∧
      t.flags = s.flags.set 15 (s.flags.getD 15 ⟨false, 0, 0⟩).occur ∧ .faultLatch true ∈ t.bkd.commits ∧
      t.eva = s.arrivals [⟨0x0201, arg (reason.toNat * 2 ^ 24)⟩] ∧ t.power.fail = some ⟨0, .sleep, s.now, reason⟩ ∧ t.seq.phase = .none ∧ SameMemory s t ∧ SameMeasurement s t ∧
      ((t.power.trans = .entryPrq .sleep ∧
          ∃ q, t.prq.req = some q ∧ q.why = .entry .sleep ∧ selOf q.word = 1 ∧ enOf q.word = false) ∨
       (t.power.trans = .entryMemc .sleep ∧ t.mem.busy ≠ none))
    (∀ x : Byte, pollOf r.word x = .refused → ∃ t, exec (.prqPoll x) s = .next t ∧ Fails 0x31 t) ∧
    (r.second = true → ∃ t, exec .prqAnswerTimeout s = .next t ∧ Fails 0x30 t)

/-- The request that an idle controller takes is a waiting one of the lowest rank, the first of its rank in the order raised, and the others keep their order; none is taken exactly when none waits. A power-fail save with the erase before it stands before a scheduled save with its erase, that before a log write, and that before the writes of an image session; the erase of R122, which the rule does not name, stands with the scheduled save (DEDUCED, log entry 60). (R125.) -/
def Obligations.MemcServesInOrder : Prop :=
  (∀ (k h n base at' off : Nat) (body body' : Option (List Byte)) (kind kind' : Byte) (own : Bool) (d e : List Byte) (f g : Frame),
    let urgent := [MemReq.save true kind body, .saveErase true kind body]
    let saves := [MemReq.save false kind' body', .saveErase false kind' body', .eraseSlot n]
    let logs := [MemReq.log, .logErase]
    let images := [MemReq.imageErase base k own, .imageBlock at' off d f, .imageHeader h e g]
    (∀ x ∈ urgent, ∀ y ∈ saves ++ logs ++ images, x.rank < y.rank) ∧
    (∀ x ∈ saves, ∀ y ∈ logs ++ images, x.rank < y.rank) ∧
    (∀ x ∈ logs, ∀ y ∈ images, x.rank < y.rank) ∧
    (∀ xs ∈ [urgent, saves, logs, images], ∀ x ∈ xs, ∀ y ∈ xs, x.rank = y.rank)) ∧
  ∀ qs : List MemReq,
    (nextReq qs = none ↔ qs = []) ∧
    ∀ q rest, nextReq qs = some (q, rest) →
      ∃ a b, qs = a ++ q :: b ∧ rest = a ++ b ∧ (∀ x ∈ a, q.rank < x.rank) ∧ (∀ x ∈ b, q.rank ≤ x.rank)

/-- MEMORY_OPERATION_COMPLETE of a save whose place reads back good and needs no erase stores the 128 bytes of its record (the next save_seq, the slot map, its kind and the register bytes it was asked with) at its position, leaves every other byte of the fitted part as it was, advances the position, notes the record as the newest with its device seconds, and requests the alive_s commit with the last integration's seconds. A power-fail save counts as the scheduled save that waits. The management core votes for RUN exactly while MEMC still has work. The billing registers do not change. (R121, R122, R123, R125, R348, R352, R360, R394, Table 4.20.) -/
def Obligations.SaveCompletes : Prop :=
  ∀ (s : State) (pf : Bool) (kind : Byte) (body : List Byte), s.mem.busy = some (.save pf kind (some body)) → body.length = 114 →
    s.mem.present = true → MemoryInv s → s.saveErases = false → s.saveOk = true → s.power.trans = .none → s.mem.suspended = [] →
    s.mem.resetDue = false → s.lnk.resetAfter = none → slotBase s.save.slot + 128 * s.save.pos + 128 ≤ s.mem.fitted →
    let a := slotBase s.save.slot + 128 * s.save.pos
    ∃ t, exec .memoryOperationComplete s = .next t ∧
      (∀ i, i < 128 → t.mem.byte (a + i) = (saveRecord (s.save.seq + 1) s.save.slotMap kind body).getD i 0) ∧
      (∀ x, x < s.mem.fitted → x < a ∨ a + 128 ≤ x → t.mem.byte x = s.mem.byte x) ∧
      t.save = { s.save.advance with seq := s.save.seq + 1, atS := BitVec.ofNat 32 (fieldN body 0 4), due := false,
                                     current := body == s.snap.regs } ∧
      (s.save.pos < 31 → t.save.pos = s.save.pos + 1 ∧ t.save.slot = s.save.slot) ∧
      t.bkd = { s.bkd with commits := s.bkd.commits ++ (s.ee.lastIntS.map Commit.alive).toList } ∧
      (pf = true → ∀ r, (r ∈ t.mem.queue ∨ t.mem.busy = some r) → r.isScheduled = false) ∧
      (s.hmc.on = true → t.power.hmc = if t.mem.busy = none ∧ t.mem.queue = [] then 2 else 0) ∧
      t.power = { s.power with hmc := t.power.hmc, idleTimer := t.power.idleTimer, state := t.power.state } ∧
      t.ee = s.ee ∧ t.eva = s.eva

/-- MEMORY_OPERATION_TIMEOUT of a save in one of two different active slots, with a spare left, retires the slot, puts the spare in its place with position 0, logs event 0x0602, occurs latched flag 2, and the same save is in progress again, on NOR after the erase of the replacement slot, whatever it reads; no byte of the memory changes (DESIGN CHOICE, log entry 29). Where that erase and its read-back end well, the whole slot reads 0xFF and the save itself is in progress. (R107, R124.) -/
def Obligations.SaveFailureRetiresSlot : Prop :=
  ∀ (s : State) (pf : Bool) (kind : Byte) (body : List Byte) (r : Nat), s.mem.busy = some (.save pf kind (some body)) →
    s.power.trans = .none → s.mem.resetDue = false → s.lnk.resetAfter = none → s.save.first ≠ s.save.second →
    (s.save.slot = s.save.first ∨ s.save.slot = s.save.second) → s.save.spare = some r →
    ∃ t, exec .memoryOperationTimeout s = .next t ∧
      t.mem.busy = some (if s.mem.fram then .save pf kind (some body) else .saveErase pf kind (some body)) ∧ t.save.slot = r ∧ t.save.pos = 0 ∧
      t.save.retired = s.save.retired ||| (1 <<< s.save.slot) ∧ t.save.degraded = s.save.degraded ∧
      t.flags = s.flags.set 2 (s.flags.getD 2 ⟨false, 0, 0⟩).occur ∧
      t.eva = s.arrivals [⟨0x0602, arg (s.save.slot * 256 + r)⟩] ∧ SameMemory s t ∧ t.ee = s.ee ∧
      t.power = { s.power with hmc := t.power.hmc, idleTimer := t.power.idleTimer, state := t.power.state } ∧
      (MemoryInv s → s.mem.present = true → s.mem.suspended = [] → s.mem.opOk (slotBase r) 4096 = true →
        slotBase r + 4096 ≤ s.mem.fitted → s.mem.fram = false → (pf = true ∨ ∀ q ∈ s.mem.queue, 0 < q.rank) →
        ∃ u, exec .memoryOperationComplete t = .next u ∧ u.mem.busy = some (.save pf kind (some body)) ∧ u.saveErases = false ∧
          (∀ a, a < s.mem.fitted → u.mem.byte a = if slotBase r ≤ a ∧ a < slotBase r + 4096 then 0xFF else s.mem.byte a) ∧
          u.eva = t.eva ∧ u.ee = s.ee)

/-- CYCLE_TICK while the timer runs and cycles run moves the nominal tick by the cycle period and the timer to that tick and the dither of the cycle after it. A tick that is to be ignored (DEEP SLEEP, OFF, a wake failure, a sweep and the 4.0 ms after it, an analysis, a park but during an entry, a power-fail warning) does nothing else but abandon the cycle of a tick still held. In a device awake with no cycle, job, sweep or request under way, the reference present, it begins a normal cycle: the dither register steps once, SEQ votes RUN, asks for a read session or joins the open one, enables the reference, and asks for 0.90 V with VDRV on under the next tag. A cycle still under way is abandoned first: counted as skipped, the first of a run logged as event 0x0401, without a snapshot. A gap job still running ends without result and stays due. A due sweep takes the place of the cycle, without a dither step, when the last normal cycle fits; else sweep_unfit is set, logged once per start as event 0x0404, and a normal cycle begins. With the reference absent the cycle is a suspended one. In a device asleep the tick is held as a wake request. (R19, R222, R240, R241, R243, R244, R263, R266, R308, R405, Table 8.2, Table 8.5.) -/
def Obligations.CycleTickBeginsACycle : Prop :=
  ∀ s : State, s.bkd.timerOn = true → s.cycling = true →
    let s1 := advanceTick s
    let s2 : State := { s1 with
      seq := { s1.seq with dither := s.nextDither, sweepEnd := none },
      ag := if s.ag.dithers then { s.ag with lfsr := galois16 s.ag.lfsr } else s.ag }
    s1.seq.nominal = s.seq.nominal + BitVec.ofNat 32 s.conf.cyclePeriod ∧
    s1.bkd.timer = s1.seq.nominal + BitVec.ofInt 32 s.nextDither ∧
    (s1.tickIgnored = true → s.power.heldTick = false → exec .cycleTick s = .next s1) ∧
    (s1.tickIgnored = true → s.power.heldTick = true → ∃ u, Logs (if s.seq.run = 0 then [⟨0x0401, [0]⟩] else []) s1 u ∧
      exec .cycleTick s = .next { u with
        seq := { s1.seq with skipped := s.seq.skipped + 1, run := s.seq.run + 1 }, power := { u.power with heldTick := false } }) ∧
    (s1.tickIgnored = false → s.awake = true → s.power.trans = .none →
      (s.clk.absent = false → s.seq.sweepDue = false → s.seq.phase ≠ .none → ∃ t, exec .cycleTick s = .next t ∧
        t.seq.phase = .before ∧ t.seq.kind = .normal ∧ t.seq.skipped = s.seq.skipped + 1 ∧ t.seq.run = s.seq.run + 1 ∧
        t.seq.cycles = s.seq.cycles ∧ t.seq.parity = (if s.seq.phase = .before then s.seq.parity else !s.seq.parity) ∧
        t.eva = s.arrivals (if s.seq.run = 0 then [⟨0x0401, [0]⟩] else []) ∧ t.snap = s.snap ∧ t.fe = s.fe ∧
        SameRegisters s t ∧ SameMemory s t) ∧
      (∀ j, s.clk.absent = false → s.seq.sweepDue = false → s.seq.phase = .none → s.seq.job = some j → ∃ t, exec .cycleTick s = .next t ∧
        t.seq.phase = .before ∧ t.seq.kind = .normal ∧ t.seq.job = none ∧ t.seq.skipped = s.seq.skipped ∧
        t.seq.gainDue = s.seq.gainDue ∧ t.seq.inlDue = s.seq.inlDue ∧ t.seq.tempDue = (s.seq.tempDue || s.temp.set.isSome) ∧
        t.temp.set = none ∧ t.tiu.loan = (if s.temp.set.isSome then none else s.tiu.loan) ∧
        t.tiu.slots.map Slot.cal = s.tiu.slots.map Slot.cal ∧ t.eva = s.eva ∧ t.fe = s.fe ∧ SameRegisters s t ∧ SameMemory s t) ∧
      (s.clk.absent = false → s.seq.sweepDue = true → s.start.agOut = false → s.seq.phase = .none → s.seq.job = none →
        (s.seq.lastFits = true → ∃ t, exec .cycleTick s = .next t ∧ t.seq.phase = .before ∧ t.seq.kind = .sweep ∧
          t.seq.jobs = [.temp] ∧ t.seq.sweepDue = true ∧ t.seq.unfit = false ∧ t.ag = s.ag ∧ t.eva = s.eva ∧ SameRegisters s t) ∧
        (s.seq.lastFits = false → ∃ t, exec .cycleTick s = .next t ∧ t.seq.phase = .before ∧ t.seq.kind = .normal ∧
          t.seq.sweepDue = true ∧ t.seq.unfit = true ∧ t.seq.unfitLogged = true ∧ t.ag = s2.ag ∧
          t.eva = s.arrivals (if s.seq.unfitLogged then [] else [⟨0x0404, [0]⟩]) ∧ SameRegisters s t)) ∧
      (s.clk.absent = true → s.seq.phase = .none → s.seq.job = none → ∃ t, exec .cycleTick s = .next t ∧
        t.seq.phase = .before ∧ t.seq.kind = .suspended ∧ t.seq.acked = false ∧ t.clk = { s.clk with refOn := true } ∧
        (s.prq.req = none → ∃ r, t.prq.req = some r ∧ selOf r.word = 2) ∧ t.eva = s.eva ∧ SameRegisters s t)) ∧
    (s1.tickIgnored = false → s.awake = true → s.power.trans = .none → s.seq.phase = .none → s.seq.job = none → s.clk.absent = false →
      s.seq.sweepDue = false → s.prq.req = none → s.power.seq = 2 → ∃ t, exec .cycleTick s = .next t ∧
      t.seq = { s2.seq with phase := .before, kind := .normal, begin := s2.seq.nominal + BitVec.ofInt 32 s.nextDither, acked := false,
                            repeated := .const false, fired := .const false, lenUs := 0, altGap := 0, driveNow := false, jobs := [] } ∧
      t.ag = s2.ag ∧ t.power.seq = 0 ∧ t.power.state = .run ∧ t.clk = { s.clk with refOn := true } ∧
      t.bkd = { s1.bkd with
        readers := s.bkd.readers + 1
        commits := if s.bkd.shadow.isSome || s.bkd.commits.contains .freeze then s.bkd.commits else s.bkd.commits ++ [.freeze] } ∧
      (∃ r, t.prq.req = some r ∧ selOf r.word = 2 ∧ enOf r.word = true ∧ tagOf r.word = s.prq.tag ∧ r.second = false) ∧
      t.prq.tag = s.prq.tag + 1 ∧
      t.ee = s.ee ∧ t.fe = s.fe ∧ t.tiu = s.tiu ∧ t.temp = s.temp ∧ t.mem = s.mem ∧ t.eva = s.eva ∧ SameSetup s t ∧ SameLink s t) ∧
    (s1.tickIgnored = false → s.awake = false → s.seq.phase = .none → s.seq.job = none → s.seq.sweepDue = false →
      s.power.heldTick = false → exec .cycleTick s = .next { s2 with power := { s.power with heldTick := true } })

/-- LAUNCH takes effect only when the acknowledge and the reference are in and no pre-cycle job waits; otherwise nothing changes. When it does (no conversion set or direct test under way), the launch count is kept, TIU votes RUN, the cycle fires exactly the paths in use that have their slots, each with the gain code chosen after its last pair, every direction received at this edge waits for its window, and every other path, the flow and energy results, and the memory stay as they were. In reciprocal mode each transducer pad of a fired path then shows its code: chip j of the burst (of the first sign before the flip chip, + for M1 and M3) is high and then low for +1, low and then high for −1, a half-period each (a pad is the function State.pad of the state and of the grid units since the launch). (R168, R171, R180, R245, R246, R247, R253, R261, Table 8.2.) -/
def Obligations.LaunchArmsTheFiredPaths : Prop :=
  ∀ (s : State) (c : BitVec 24), s.seq.kind = .normal →
    (s.launchReady = false → exec (.launch c) s = .next s) ∧
    (s.launchReady = true → s.temp.set = none → s.tiu.test = .armed → ∃ t, exec (.launch c) s = .next t ∧
      t.seq.phase = .launched ∧ t.seq.before = s.afe ∧ t.tiu.launch1 = c ∧ t.tiu.coarse = c ∧ t.power.tiu = 0 ∧
      (∀ p, t.seq.fired.get p = s.fires p) ∧
      (∀ p d, s.fires p = true → d ∈ s.shotDirs → (t.lane p d).phase = .waiting) ∧
      (∀ p, s.fires p = true → (t.afe.get p).gain = (s.afe.get p).nextGain) ∧
      (∀ p, s.fires p = false → t.afe.get p = s.afe.get p ∧ t.tiu.paths.get p = s.tiu.paths.get p) ∧
      (s.conf.alternating = false → s.cycling = true → s.power.resetLow = false → ∀ p side j h r line vhold us,
        s.fires p = true → (s.afe.get p).clamp.get side = false → j < s.conf.burst → (h = 0 ∨ h = 1) → r < s.conf.hq →
        t.pad ⟨true, line, vhold, (((2 * j + h) * s.conf.hq + r : Nat) : Int), none, us⟩ (.xd p side) =
          if (decide (j < s.conf.flipChip p) == (p != .two)) == (h == 0) then .high else .low) ∧
      t.ee = s.ee ∧ t.fe = s.fe ∧ t.temp = s.temp ∧ t.mem = s.mem ∧ t.eva = s.eva ∧ t.bkd = s.bkd ∧ SameSetup s t ∧ SameLink s t)

/-- SECOND_LAUNCH at the spacing of R248 (in a repeat at the spacing kept), once the first direction is done, begins the second half: the other direction of every path of the launch waits, and the spacing and count are kept. REPEAT_LAUNCH at the spacing of R227 re-arms the paths that are repeated with the new launch count and the windows of the discarded pair, and counts and logs each with event 0x0302 (R229). Neither changes anything at another time. SWEEP_LAUNCH of a due sweep whose own conversion set is done begins the sweep: launch 1 of 256, event 0x0403 with its number (at the first launch: DEDUCED, log entry 37), and the device seconds of the first launch; while a sweep runs, each further launch from the gap counts one more and joins a read session. Outside both cases, and beyond 256, nothing changes. (R227, R228, R247, R248, Table 7.5, R263, R264, R245.) -/
def Obligations.FurtherLaunches : Prop :=
  (
    ∀ (s : State) (c : BitVec 24),
      ((s.seq.phase = .launched ∨ s.seq.phase = .repeating) → s.conf.alternating = true → s.dirDone (firstDir s.seq.parity) = true →
        let gap := if s.seq.phase = .repeating then s.seq.altGap.toNat else s.gapRef
        ((c - s.tiu.launch1).toNat = gap → ∃ t, exec (.secondLaunch c) s = .next t ∧ t.seq.phase = .second ∧
          t.seq.altGap = BitVec.ofNat 16 gap ∧ t.tiu = { s.tiu.resetAll with launch2 := c, coarse := c } ∧
          (∀ p ∈ s.shot, (t.lane p (otherDir (firstDir s.seq.parity))).phase = .waiting) ∧
          t = { s with seq := t.seq, tiu := t.tiu, afe := t.afe }) ∧
        ((c - s.tiu.launch1).toNat ≠ gap → exec (.secondLaunch c) s = .next s)) ∧
      (s.repeatWaits = true →
        ((c - s.tiu.launch1).toNat = s.repeatAt → s.tiu.test = .armed → ∃ t, exec (.repeatLaunch c) s = .next t ∧ t.tiu.launch1 = c ∧
          (∀ p d, p ∈ s.shot → d ∈ s.shotDirs → (t.lane p d).phase = .waiting) ∧
          (∀ p d, (t.win p d).openQ = (s.win p d).openQ ∧ (t.win p d).closeQ = (s.win p d).closeQ) ∧
          t.tiu.repeats = s.tiu.repeats + BitVec.ofNat 16 s.shot.length ∧
          Logs (s.shot.map (fun p => ⟨0x0302, arg p.num⟩)) { s with tiu := t.tiu, afe := t.afe } t) ∧
        ((c - s.tiu.launch1).toNat ≠ s.repeatAt → exec (.repeatLaunch c) s = .next s))) ∧
  (
    ∀ (s : State) (c : BitVec 24) (k : BitVec 32), s.temp.set = none → s.tiu.test = .armed →
      (s.seq.sweepOn = false → s.launchReady = true → s.seq.kind = .sweep → s.seq.jobs = [] → ∃ t, exec (.sweepLaunch c k) s = .next t ∧
        t.seq.sweepOn = true ∧ t.seq.sweepIdx = 1 ∧ t.seq.sweepFirstS = s.now ∧ t.seq.begin = k ∧ t.seq.phase = .launched ∧
        t.seq.sweepDue = false ∧ t.tiu.launch1 = c ∧ t.bkd = { s.bkd with timer := k } ∧
        t.eva = s.arrivals [⟨0x0403, arg ((s.seq.sweeps.toNat + 1) % 65536 * 65536)⟩] ∧ t.ee = s.ee ∧ t.fe = s.fe) ∧
      (s.seq.sweepOn = false → (s.launchReady = false ∨ s.seq.kind ≠ .sweep ∨ s.seq.jobs ≠ []) → exec (.sweepLaunch c k) s = .next s) ∧
      (s.seq.sweepOn = true → s.seq.phase = .none → s.clk.onRef = true → s.seq.pfStop = false → s.seq.sweepIdx < 256 →
        ∃ t, exec (.sweepLaunch c k) s = .next t ∧ t.seq.sweepIdx = s.seq.sweepIdx + 1 ∧ t.seq.kind = .sweep ∧ t.seq.begin = k ∧
          t.seq.phase = .launched ∧ t.tiu.launch1 = c ∧ t.bkd.readers = s.bkd.readers + 1 ∧ t.bkd.timer = k ∧ t.eva = s.eva ∧
          t.ee = s.ee ∧ t.fe = s.fe) ∧
      (s.seq.sweepOn = true → 256 ≤ s.seq.sweepIdx → exec (.sweepLaunch c k) s = .next s))

/-- CONVERSIONS_COMPLETE of a normal cycle in a running device with its read session open, with no repeat to make, computes flow and energy and takes the snapshot: one more cycle is counted, SEQ is at rest with the other parity, no lane is active, the snapshot carries the time of the session and its age from the freeze edge (R480), and the measured figures of the L-die are those given. A suspended cycle, with its voltage acknowledged, reaches its snapshot with every pair NOT_FIRED and the parity as it was. A cycle of a sweep passes its samples to AG and the sweep goes on; the 256th ends it: counted, its analysis begins (after a reset of AG it ends without result), and its snapshot still shows the sweeps before (DESIGN CHOICE, log entry 98). With a repeat to make, the cycle waits for the repeat instead and takes no snapshot. (R19, R25, R204, R226, R227, R251, R264, R310, R374, R419, Table 8.2, Table 10.3.) -/
def Obligations.CycleReachesItsSnapshot : Prop :=
  (∀ (s : State) (len : Nat) (m : PhyMeas) (f : TimeRegs), s.start.phase = .running → s.bkd.shadow = some f →
    let Shown := fun (t : State) => t.seq.cycles = s.seq.cycles + 1 ∧ t.seq.phase = .none ∧ t.snap.time = f ∧
      t.snap.ageLf = s.bkd.sessionAge ∧ t.phy.meas = m ∧ t.ee.begin = some s.seq.begin ∧ t.start.phase = .running ∧ t.fuse = s.fuse ∧
      t.conf = s.conf
    (s.suspendedReady = true → s.seq.sweepOn = false → ∃ t, exec (.conversionsComplete len m) s = .next t ∧ Shown t ∧
      t.seq.parity = s.seq.parity ∧ t.seq.kind = .normal ∧ t.seq.lenUs = 0 ∧ t.seq.run = 0 ∧ t.snap.sweepCycle = false ∧
      (∀ p, s.pathUsed p = true → (t.fe.paths.get p).pair = .notFired ∧ (t.fe.paths.get p).pairBegin = s.seq.begin)) ∧
    (s.suspendedReady = false → s.conversionsIn = true → s.seq.kind = .sweep → s.seq.sweepOn = true →
      (s.seq.sweepIdx < 256 → ∃ t, exec (.conversionsComplete len m) s = .next t ∧ Shown t ∧ t.seq.sweepOn = true ∧
        t.seq.sweepIdx = s.seq.sweepIdx ∧ t.seq.kind = .sweep ∧ t.seq.parity = !s.seq.parity ∧ t.seq.sweeps = s.seq.sweeps ∧
        t.snap.sweepCycle = true ∧
        (∀ p, t.ag.series.get p = s.ag.series.get p ++ [(t.fe.paths.get p).sample.map Prod.snd])) ∧
      (256 ≤ s.seq.sweepIdx → ∃ t, exec (.conversionsComplete len m) s = .next t ∧ Shown t ∧ t.seq.sweepOn = false ∧
        t.seq.sweepIdx = 0 ∧ t.seq.kind = .normal ∧ t.seq.sweeps = s.seq.sweeps + 1 ∧ t.seq.lastSweepS = s.seq.sweepFirstS ∧
        t.seq.sweepEnd.isSome = true ∧ t.snap.sweepCycle = true ∧
        t.snap.seq.drop 18 = be 2 s.seq.sweeps ++ be 4 s.seq.lastSweepS ∧
        (s.ag.noResult = false → t.ag.analysing = true ∧ t.power.ag = 0) ∧
        (s.ag.noResult = true → t.ag.analysing = s.ag.analysing ∧ t.ag.lastInvalid = true ∧ t.ag.abandoned = true ∧
          t.ag.noResult = false)))) ∧
  ∀ (s : State) (len : Nat) (m : PhyMeas) (f : TimeRegs), s.suspendedReady = false → s.conversionsIn = true → s.start.phase = .running →
    s.seq.kind = .normal → s.bkd.shadow = some f →
    (s.repeats = false → ∃ t, exec (.conversionsComplete len m) s = .next t ∧ t.seq.cycles = s.seq.cycles + 1 ∧ t.seq.phase = .none ∧
      t.seq.parity = !s.seq.parity ∧ t.seq.kind = .normal ∧ t.seq.lenUs = BitVec.ofNat 16 (min 65535 len) ∧ t.seq.run = 0 ∧
      t.snap.time = f ∧ t.snap.ageLf = s.bkd.sessionAge ∧ t.snap.sweepCycle = false ∧ t.phy.meas = m ∧ t.ee.begin = some s.seq.begin ∧
      (∀ p d, (t.lane p d).phase = .idle) ∧ t.start.phase = .running ∧ t.fuse = s.fuse ∧ t.conf = s.conf) ∧
    (s.repeats = true → ∃ t, exec (.conversionsComplete len m) s = .next t ∧ t.seq.phase = .repeating ∧
      t.seq.cycles = s.seq.cycles ∧ t.snap = s.snap ∧ t.ee = s.ee ∧ t.fe = s.fe ∧ SameMemory s t)

/-- A scheduled save falls due in every state. While cycles run the calibration and sweep timers note their job as due and change nothing else; a sweep falls due only with sweeps configured, AG in service and no sweep running; a temperature set falls due while TSREF agrees with the image, and where it does not, no set ever does: the mismatch is logged as event 0x0306 with the TSREF reading held at 65 535 (DESIGN CHOICE, log entry 74), behind the events of the sensors that it takes, and not again. A deferred TIME SET is committed once no sweep runs. A sweep runs here from the tick that begins it (the reading of log entry 37). GAP_JOB_COMPLETE of a gain calibration takes its ring calibration (a failed one is a vernier fault), clears its due flag and notes its device seconds and die temperature; of an INL calibration clears its own and notes its time; one that was cut short changes neither figures nor what is due; in all cases the energy registers stay. In Basalt mode of a member or head the vernier self-test sets checkPass and clears the vernier fault exactly when the rings and the mean deviation are within limits, and the snapshot takes the present time. Three places of the free value of log entry 8 are passed by a ring calibration. (R221, R262, R268, R313, R322, R328, R348, R231, R232, R233, R234.) -/
def Obligations.JobsFallDueAndComplete : Prop :=
  (
    ∀ s : State, exec .scheduledSaveDue s = .next { s with save := { s.save with due := true } } ∧ (s.cycling = true →
      exec .gainCalibrationDue s = .next { s with seq := { s.seq with gainDue := true } } ∧
      exec .inlCalibrationDue s = .next { s with seq := { s.seq with inlDue := true } } ∧
      (s.temp.mismatch = false → s.tsrefMismatch = false →
        exec .temperatureSetDue s = .next { s with seq := { s.seq with tempDue := true } }) ∧
      (s.temp.mismatch = false → s.tsrefMismatch = true → ∃ t, exec .temperatureSetDue s = .next t ∧ t.temp.mismatch = true ∧
        t.seq = s.seq ∧ .faultLatch true ∈ t.bkd.commits ∧ exec .temperatureSetDue t = .next t ∧
        ∃ es, (∀ e ∈ es, e.code = 0x0305) ∧ Logs (es ++ [⟨0x0306, arg (min 65535 s.straps.tsrefOhm)⟩]) { s with
          temp := t.temp, flags := t.flags, bkd := { s.bkd with commits := s.bkd.commits ++ [.faultLatch true] } } t) ∧
      (s.conf.sweepInterval.isSome = true → s.start.agOut = false → s.inSweep = false →
        exec .sweepDue s = .next { s with seq := { s.seq with sweepDue := true } }) ∧
      ((s.conf.sweepInterval = none ∨ s.start.agOut = true ∨ s.inSweep = true) → exec .sweepDue s = .next s) ∧
      (∀ c : Cal, s.seq.deferred = some c → s.inSweep = false → exec .deferredTimeSetCommit s = .next { s with
        seq := { s.seq with deferred := none }, bkd := { s.bkd with commits := s.bkd.commits ++ [.time c] } }))) ∧
  (
    ∀ s : State,
      (∀ (r : JobResult) (j : Job), r.cal.length ≠ 24 → s.seq.job = some j → s.temp.set = none → s.seq.phase = .none →
        s.power.heldMgmt = none →
        ∃ t, exec (.gapJobComplete r) s = .next t ∧
          t.seq.gainDue = s.seq.gainDue ∧ t.seq.inlDue = s.seq.inlDue ∧
          t.seq.preFull = s.seq.preFull ∧ t.seq.preGain = s.seq.preGain ∧ t.tiu.gainAtS = s.tiu.gainAtS ∧ t.tiu.inlAtS = s.tiu.inlAtS ∧
          t.tiu.slots.map Slot.cal = s.tiu.slots.map Slot.cal ∧ t.tiu.vernierBad = s.tiu.vernierBad ∧ SameRegisters s t) ∧
      (∀ r : JobResult, r.cal.length = 24 → s.seq.job = some .gain → s.seq.phase = .none → s.power.parked = none → s.power.latchedState = none →
        s.power.heldMgmt = none → ∃ t, exec (.gapJobComplete r) s = .next t ∧
        t.seq.gainDue = false ∧ t.tiu.gainAtS = some s.now ∧ t.hmc.dieAtCal = s.hmc.die100 ∧ t.seq.inlDue = s.seq.inlDue ∧
        t.tiu.vernierBad = (s.tiu.vernierBad || !(ringsOf s.clk.onRef r.ring s.free).ok) ∧ t.free = s.free + 3 ∧
        SameRegisters s t ∧ t.snap = s.snap) ∧
      (∀ r : JobResult, r.cal.length = 24 → s.seq.job = some .inl → s.seq.phase = .none → s.power.parked = none → s.power.latchedState = none →
        s.power.heldMgmt = none → ∃ t, exec (.gapJobComplete r) s = .next t ∧
        t.seq.inlDue = false ∧ t.tiu.inlAtS = some s.now ∧ t.seq.gainDue = s.seq.gainDue ∧ SameRegisters s t ∧ t.snap = s.snap) ∧
      (∀ x : SelfTest, s.start.phase = .basalt → s.role ≠ .standAlone → s.clk.core = true → s.bkd.commits = [] → s.bkd.shadow = none →
        s.bkd.readers = 0 →
        let r := ringsOf s.clk.onRef x.rings s.free
        let ok := r.ok && selfMeanOk r x.intervals
        ∃ t, exec (.vernierSelfTestTimer x) s = .next t ∧ t.tiu.checkPass = ok ∧ t.tiu.vernierBad = !ok ∧
          t.free = s.free + 3 ∧ t.snap.time = s.bkd.time ∧ t.bkd = { s.bkd with sessionAge := 0 } ∧ t.ee = s.ee ∧ SameMemory s t ∧
          SameSetup s t ∧ SameLink s t))

/-- POWER_FAIL_WARNING completes in every state. In link supply it is counted, raises event 0x0207 with latched flag 4, and lets no new cycle begin; a cycle past its launch goes on, and a cycle before it, a sweep or a gap job is abandoned (log entry 54); with none of them running the device stays in RUN, and the save of kind 1 is asked for when the newest snapshot is unsaved, with the erase of its sector first where that is not blank. POWER_FAIL_CYCLE_LIMIT abandons a cycle past its 2 ms, counts it as skipped and as one of a run. POWER_FAIL_CLEAR lifts the stop, and the votes decide again. BATTERY_LOW in battery supply makes one such save until BATTERY_LOW_REARM. Each of the five answers an unchanged next state where its condition does not hold. (R61, R125, R244, R350, R351, R396, Table 12.6.) -/
def Obligations.PowerFailStopsCycles : Prop :=
  ∀ s : State,
    ((s.linkSupply = false ∨ s.phy.powerFail = true) → exec .powerFailWarning s = .next s) ∧
    (s.linkSupply = true → s.phy.powerFail = false →
      let w : State := { s with phy := { s.phy.stopInsertion with powerFail := true, holdUp := true, powerFails := s.phy.powerFails + 1 },
                                seq := { s.seq with pfStop := true } }
      (s.cyclesRun = false → ∃ u, exec .powerFailWarning s = .next (occur flagPowerfail u) ∧ Logs [⟨0x0207, [0]⟩] w u) ∧
      (s.cyclesRun = true → s.inPair = true → s.inSweep = false → ∃ t, exec .powerFailWarning s = .next t ∧
        t.seq = w.seq ∧ t.phy = w.phy ∧ t.flags = s.flags.set 4 (s.flags.getD 4 ⟨false, 0, 0⟩).occur ∧
        t.eva = s.arrivals [⟨0x0207, [0]⟩] ∧ (s.power.trans = .none → t.power.state = .run) ∧
        SameMemory s t ∧ SameMeasurement s t ∧ t.bkd = s.bkd) ∧
      (s.cyclesRun = true → ∃ t, exec .powerFailWarning s = .next t ∧ t.seq.pfStop = true ∧ t.phy = w.phy ∧
        (s.inPair = false → t.seq.phase = .none ∧ t.seq.job = none ∧ t.seq.sweepOn = false) ∧ SameMemory s t ∧ SameRegisters s t) ∧
      (s.cyclesRun = true → s.seq.phase = .none → s.seq.job = none → s.seq.sweepOn = false → s.power.heldMgmt = none →
        ∃ t, exec .powerFailWarning s = .next t ∧ t.seq = w.seq ∧ t.phy = w.phy ∧
          t.flags = s.flags.set 4 (s.flags.getD 4 ⟨false, 0, 0⟩).occur ∧ t.eva = s.arrivals [⟨0x0207, [0]⟩] ∧
          (s.power.trans = .none → t.power.state = .run ∧ t.power.idleTimer = false) ∧
          (s.mem.usable = true → s.save.current = false → s.mem.busy = none → s.mem.suspended = [] → s.mem.queue = [] →
            s.eva.queue.length < 31 → t.mem.busy = some (s.firstOf (.save true 1 (some s.snap.regs)))) ∧
          SameMemory s t ∧ SameMeasurement s t ∧ t.bkd = s.bkd)) ∧
    (s.seq.pfStop = true → s.seq.phase ≠ .none → ∃ t, exec .powerFailCycleLimit s = .next t ∧ t.seq.phase = .none ∧
      t.seq.skipped = s.seq.skipped + 1 ∧ t.seq.run = s.seq.run + 1 ∧ t.seq.pfStop = true ∧ SameMemory s t ∧ SameRegisters s t ∧
      (s.power.heldMgmt = none → t.fe = s.fe)) ∧
    ((s.seq.pfStop = false ∨ s.seq.phase = .none) → exec .powerFailCycleLimit s = .next s) ∧
    (s.phy.powerFail = false → exec .powerFailClear s = .next s) ∧
    (s.phy.powerFail = true → (s.cyclesRun = false ∨ (s.power.parked = none ∧ s.power.latchedState = none)) → exec .powerFailClear s = .next { s with
      phy := { s.phy with powerFail := false }, seq := { s.seq with pfStop := false },
      power := if s.cyclesRun = true ∧ s.power.trans = .none
               then { s.power with idleTimer := decide (s.power.state.toCode < s.power.target) } else s.power }) ∧
    (s.cycling = true → s.linkSupply = false → s.save.lowArmed = true → ∃ t, exec .batteryLow s = .next t ∧
      t.save = { s.save with lowArmed := false } ∧ t.ee = { s.ee with lowSave := true } ∧
      t.flags = s.flags.set 4 (s.flags.getD 4 ⟨false, 0, 0⟩).occur ∧ t.eva = s.arrivals [⟨0x0207, [1]⟩] ∧
      (s.mem.usable = true → s.mem.busy = none → s.mem.suspended = [] → s.mem.queue = [] → s.eva.queue.length < 31 →
        t.mem.busy = some (s.firstOf (.save true 1 (some s.snap.regs)))) ∧
      SameMemory s t ∧ t.seq = s.seq ∧ t.phy = s.phy ∧ t.bkd = s.bkd) ∧
    ((s.cycling = false ∨ s.linkSupply = true ∨ s.save.lowArmed = false) → exec .batteryLow s = .next s) ∧
    exec .batteryLowRearm s = .next (if s.linkSupply = true then s else { s with save := { s.save with lowArmed := true } })

/-- STOP_WINDOW_OPEN brings a waiting direction to its search and notes a signal already above the threshold as EARLY. A threshold firing inside the window arms a searching direction, one outside the window changes nothing. The first falling zero crossing of an armed direction is its arming edge. STOP_WINDOW_CLOSE releases a lane that still runs with its peak, and each slot that still waits for a crossing of it ends with TIMEOUT. A drive fault of a fired path clamps the pad for the rest of the cycle and is reported once per path and cycle (on the other pad too: DESIGN CHOICE, log entry 92) with event 0x0405, latched flag 12 and the FAULT_N latch. (R170, R174, R182, R183, R184, R192, R196, R202, R520.) -/
def Obligations.ReceiveLaneOpensAndFires : Prop :=
  ∀ (s : State) (p : Idx3) (d : Dir),
    (∀ above : Bool, (s.lane p d).phase = .waiting →
      exec (.stopWindowOpen p d above) s = .next (setLane p d { s.lane p d with phase := .searching, early := above } s)) ∧
    (∀ q : Nat, (q < (s.win p d).openQ ∨ (s.win p d).closeQ ≤ q) → exec (.thresholdFiring p d q) s = .next s) ∧
    (∀ q : Nat, (s.win p d).openQ ≤ q → q < (s.win p d).closeQ → (s.lane p d).phase = .searching → (s.lane p d).irregular = false →
      exec (.thresholdFiring p d q) s = .next (setLane p d { s.lane p d with phase := .armed, fired := true } s)) ∧
    (∀ (q : Nat) (peak : Byte), q < (s.win p d).closeQ → (s.lane p d).phase = .armed →
      exec (.zeroCrossing p d q true peak) s = .next (setLane p d { s.lane p d with phase := .counting, edge := q, lead := 0 } s) ∧
      exec (.zeroCrossing p d q false peak) s = .next s) ∧
    (∀ peak : Byte, (s.lane p d).phase ≠ .idle → (s.lane p d).phase ≠ .released → ∃ t, exec (.stopWindowClose p d peak) s = .next t ∧
      t.lane p d = { s.lane p d with phase := .released, peak := peak, saturated := peak == 0xFF, truncated := (s.lane p d).flip.isSome } ∧
      (∀ p' d', p' ≠ p ∨ d' ≠ d → t.lane p' d' = s.lane p' d') ∧
      (∀ k n, k < 24 → (s.tiu.slot k).use = .stamp p d n →
        (t.tiu.slot k).use = .timeout ∧ (⟨n, k, .timeout, none⟩ : Stamp) ∈ (t.win p d).stamps) ∧
      t = { s with afe := t.afe, tiu := t.tiu }) ∧
    (s.inPair = true → s.seq.fired.get p = true →
      let s' : State := { s with
        afe := s.afe.set p { s.afe.get p with drive := true, clamp := (s.afe.get p).clamp.set d true },
        seq := { s.seq with driveNow := true } }
      ((s.afe.get p).drive = true → exec (.driveFault ⟨p, d⟩) s = .next s') ∧
      ((s.afe.get p).drive = false → ∃ u, exec (.driveFault ⟨p, d⟩) s = .next (setFault (occur flagDrive u)) ∧
        Logs [⟨0x0405, arg p.num⟩] s' u))

/-- For every direction that counts half-periods: one of 0.70 to 1.30 h_q adds to the lead and one of 1.60 to 2.40 h_q is the flip edge, whose sign is that of the edge; the result is NO_LEAD without a normal half-period before it and FOREIGN where the polarity lock is of the other sign. One of any other length abandons the arming, up to three times; the direction is IRREGULAR when a fourth re-arming would be needed (the reading of log entry 65). The two ranges never overlap. (R184, R185, R187, R188, Table 6.6.) -/
def Obligations.FlipIsFoundByItsLength : Prop :=
  ∀ (x : AfeDir) (hq chip n q : Nat) (falling : Bool) (peak : Byte), x.phase = .counting → x.edge ≤ q → 0 < hq →
    let len := q - x.edge
    (70 * hq ≤ 100 * len → 100 * len ≤ 130 * hq →
      x.edgeAt hq chip n q falling peak = ({ x with lead := x.lead + 1, edge := q }, none)) ∧
    (160 * hq ≤ 100 * len → 100 * len ≤ 240 * hq → ∃ y, x.edgeAt hq chip n q falling peak = (y, none) ∧ y.phase = .stamping ∧
      y.flip = some (falling, q) ∧ y.crossing = 0 ∧ (y.noLead = true ↔ x.lead = 0) ∧ (y.foreign = true ↔ x.lock = some (!falling)) ∧
      y.fired = x.fired ∧ y.thr = x.thr ∧ y.lock = x.lock) ∧
    (¬ (70 * hq ≤ 100 * len ∧ 100 * len ≤ 130 * hq) → ¬ (160 * hq ≤ 100 * len ∧ 100 * len ≤ 240 * hq) →
      x.edgeAt hq chip n q falling peak =
        (if x.rearms < 3 then { x with phase := .searching, rearms := x.rearms + 1, lead := 0 }
         else { x with phase := .searching, irregular := true }, none))

/-- CONVERSION_DONE of a slot charged for a stamp, at its turn on its SAR (no lane between receive-ready and its release, log entry 88; no charged slot of a lower number left): when every check of Table 7.6 passes, the stamp number, the slot, the result OK and the ticks from the launch join the stamps of that direction and the slot is free; when one fails, the slot is retired with the cause, the result FAILED is published, event 0x0301 and latched flag 13 arise, the failure is counted, and the pair has failed. A slot of the same SAR that ended with TIMEOUT is reset at its turn. The energy registers and the memory stay in both cases. One free value is spent (log entry 8). (R200, R202, R204, R214, R225, R226, R229, Table 7.6, Table 7.10.) -/
def Obligations.ConversionGivesAStampOrRetires : Prop :=
  ∀ (s : State) (k : Fin 24) (code : BitVec 16) (ce : BitVec 24) (ok : Bool) (p : Idx3) (d : Dir) (n q : Nat),
    (s.tiu.slot k.val).use = .charged p d n q → s.sarTurn k.val = true → s.tiu.slots.length = 24 →
    let r := (s.tiu.slot k.val).cal.read code.toNat s.free
    let rel := relTicks (stampOf ce.toNat r.x) (s.launchOf d)
    let Rest := fun (t : State) => ∀ j, j ≠ k.val → j < 24 → t.tiu.slot j =
      if j / 4 = k.val / 4 ∧ j < k.val ∧ (s.tiu.slot j).use = .timeout then { s.tiu.slot j with use := .free } else s.tiu.slot j
    (checkCause r rel (some q) ok = none → ∃ t, exec (.conversionDone k code ce ok) s = .next t ∧
      (t.win p d).stamps = (s.win p d).stamps ++ [⟨n, k.val, .ok, some rel⟩] ∧
      t.tiu.slot k.val = { s.tiu.slot k.val with use := .free } ∧ Rest t ∧ t = { s with tiu := t.tiu, free := s.free + 1 }) ∧
    (∀ c, checkCause r rel (some q) ok = some c → ∃ t, exec (.conversionDone k code ce ok) s = .next t ∧
      (t.win p d).stamps = (s.win p d).stamps ++ [⟨n, k.val, .failed, some rel⟩] ∧
      t.tiu.slot k.val = { s.tiu.slot k.val with state := 2, cause := c, use := .free } ∧ t.tiu.convFail = s.tiu.convFail + 1 ∧
      (t.tiu.paths.get p).failed = true ∧ Rest t ∧
      t.flags = s.flags.set 13 (s.flags.getD 13 ⟨false, 0, 0⟩).occur ∧ t.eva = s.arrivals [⟨0x0301, arg (k.val * 256 + c.toNat)⟩] ∧
      SameMemory s t ∧ t.ee = s.ee ∧ t.fe = s.fe ∧ t.bkd = s.bkd)

/-- A rising TST_START edge in an awake device whose cycles run on the reference, with no test under way, both pads low since the previous result and two slots to spare, charges the highest-numbered good slot, keeps the next for the stop edge, and raises TIU's vote; a stop edge alone ends the test as ORDER (result 1) and both in one grid unit as SHORT (result 2); with a pad not low since the previous result nothing begins. A stop edge 8 grid units or more after the start charges the kept slot; an earlier one ends the test as SHORT, and one without the reference as NOREF (result 5), as does a first edge without it. A first edge without two free test slots gives BUSY (result 4), and so does a launch that needs a slot of the test. TEST_TIMEOUT with no stop edge ends the test as LONG (result 3). The first of the two conversions, of either slot, keeps its stamp; with the second stamp the result is OK (0) with the interval, or SHORT below 65 536 ticks; a conversion that fails Table 7.6, the last of the two, gives SLOT (result 6) and retires the slot. Each end counts one test and logs event 0x0304; but for OK the last interval stays. A conversion spends one free value (log entry 8). (R235, R236, R237, R394, Table 7.13.) -/
def Obligations.DirectTestEdges : Prop :=
  ∀ (s : State) (q a b : Nat),
    let Ends := fun (res : Nat) (t : State) => t.tiu.test = .armed ∧ t.tiu.testResult = BitVec.ofNat 4 res ∧
      t.tiu.testSeq = s.tiu.testSeq + 1 ∧ t.tiu.testTicks = s.tiu.testTicks ∧
      t.eva = s.arrivals [⟨0x0304, [BitVec.ofNat 32 ((s.tiu.testSeq + 1).toNat * 2 ^ 24 + res * 2 ^ 16), 0]⟩] ∧
      t.ee = s.ee ∧ t.fe = s.fe ∧ t.bkd = s.bkd ∧ SameMemory s t
    (s.cycling = true → s.awake = true → s.clk.onRef = true → s.tiu.test = .armed → s.tiu.testSlots = some (a, b) →
      (∃ t, exec (.tstEdge true false ⟨q, true⟩) s = .next t ∧ t.power.tiu = 0 ∧ t = { s with tiu := t.tiu, power := t.power } ∧
        t.tiu = { (s.tiu.setSlot a { s.tiu.slot a with use := .testStart q }).setSlot b { s.tiu.slot b with use := .testWait } with
                  test := .started a b q }) ∧
      (∀ x y : Bool, exec (.tstEdge x y ⟨q, false⟩) s = .next s) ∧
      (∃ t, exec (.tstEdge false true ⟨q, true⟩) s = .next t ∧ Ends 1 t) ∧
      (∃ t, exec (.tstEdge true true ⟨q, true⟩) s = .next t ∧ Ends 2 t)) ∧
    (∀ (q0 : Nat) (x low : Bool), s.cycling = true → s.awake = true → s.tiu.test = .started a b q0 →
      (s.clk.onRef = true → q0 + 8 ≤ q → exec (.tstEdge x true ⟨q, low⟩) s = .next { s with
        tiu := { s.tiu.setSlot b { s.tiu.slot b with use := .testStop q } with test := .converting a b none none } }) ∧
      (s.clk.onRef = true → q < q0 + 8 → ∃ t, exec (.tstEdge x true ⟨q, low⟩) s = .next t ∧ Ends 2 t) ∧
      (s.clk.onRef = false → ∃ t, exec (.tstEdge x true ⟨q, low⟩) s = .next t ∧ Ends 5 t)) ∧
    (s.tiu.test = .started a b q → ∃ t, exec .testTimeout s = .next t ∧ Ends 3 t) ∧
    (∀ x y : Bool, (x = true ∨ y = true) → s.cycling = true → s.awake = true → s.tiu.test = .armed →
      (s.clk.onRef = false → ∃ t, exec (.tstEdge x y ⟨q, true⟩) s = .next t ∧ Ends 5 t) ∧
      (s.clk.onRef = true → s.tiu.testSlots = none → ∃ t, exec (.tstEdge x y ⟨q, true⟩) s = .next t ∧ Ends 4 t)) ∧
    (∀ (c : BitVec 24) (p : Idx3) (d : Dir), s.launchReady = true → s.seq.kind = .normal → s.temp.set = none →
      s.tiu.test = .started a b q → s.fires p = true → (a ∈ s.slotsOf p d ∨ b ∈ s.slotsOf p d) →
      ∃ t, exec (.launch c) s = .next t ∧ t.seq.phase = .launched ∧ Ends 4 t) ∧
    (∀ (k : Fin 24) (code : BitVec 16) (ce : BitVec 24) (q' : Nat), s.tiu.slots.length = 24 → s.sarTurn k.val = true →
      let r := (s.tiu.slot k.val).cal.read code.toNat s.free
      let v := stampOf ce.toNat r.x
      let alone := ∀ j, j < 24 → j ≠ k.val → (s.tiu.slot j).use.isTest = false
      let isStart := (s.tiu.slot k.val).use = .testStart q'
      let isStop := (s.tiu.slot k.val).use = .testStop q'
      (s.tiu.test = .converting a b none none → (isStart ∨ isStop) → checkCause r 0 none true = none →
        (∃ j, j < 24 ∧ j ≠ k.val ∧ (s.tiu.slot j).use.isTest = true) → ∃ t, exec (.conversionDone k code ce true) s = .next t ∧
        t.tiu.test = (if isStart then .converting a b (some v) none else .converting a b none (some v)) ∧
        (t.tiu.slot k.val).use = .free ∧ t = { s with tiu := t.tiu, free := s.free + 1 }) ∧
      (∀ x y : Nat, alone → checkCause r 0 none true = none →
        ((s.tiu.test = .converting a b (some x) none ∧ isStop ∧ y = v) ∨ (s.tiu.test = .converting a b none (some y) ∧ isStart ∧ x = v)) →
        let i := (y + 2 ^ 39 - x) % 2 ^ 39
        (65536 ≤ i → ∃ t, exec (.conversionDone k code ce true) s = .next t ∧ t.tiu.test = .armed ∧ t.tiu.testResult = 0 ∧
          t.tiu.testSeq = s.tiu.testSeq + 1 ∧ t.tiu.testTicks = BitVec.ofNat 40 i ∧ (t.tiu.slot k.val).use = .free ∧
          t.eva = s.arrivals [⟨0x0304, [BitVec.ofNat 32 ((s.tiu.testSeq + 1).toNat * 2 ^ 24 + i / 2 ^ 32), BitVec.ofNat 32 i]⟩] ∧
          t.ee = s.ee ∧ t.fe = s.fe ∧ t.bkd = s.bkd ∧ SameMemory s t) ∧
        (i < 65536 → ∃ t, exec (.conversionDone k code ce true) s = .next t ∧ Ends 2 t)) ∧
      (∀ (x y : Option Nat) (ok : Bool) (c : BitVec 4), alone → s.tiu.test = .converting a b x y → (x = none ∨ y = none) →
        (isStart ∨ isStop) → checkCause r 0 none ok = some c →
        ∃ t, exec (.conversionDone k code ce ok) s = .next t ∧ t.tiu.test = .armed ∧ t.tiu.testResult = 6 ∧
          t.tiu.testSeq = s.tiu.testSeq + 1 ∧ t.tiu.testTicks = s.tiu.testTicks ∧ (t.tiu.slot k.val).state = 2 ∧
          (t.tiu.slot k.val).cause = c ∧
          t.eva = s.arrivals [⟨0x0301, arg (k.val * 256 + c.toNat)⟩,
            ⟨0x0304, [BitVec.ofNat 32 ((s.tiu.testSeq + 1).toNat * 2 ^ 24 + 6 * 2 ^ 16), 0]⟩] ∧ t.ee = s.ee ∧ t.fe = s.fe ∧ SameMemory s t))

/-- HOLD_EXPIRY outside a pair, of a HELD path whose last pair was not VALID, was not discarded for a conversion check and began hold_time_s or more after its last VALID pair, makes the path INVALID with latched flag 11; the held value and the parity means are discarded, both locks are unset and the windows go to acquisition. Pipes that do not use the path keep their record. In every other case nothing changes. (R22, R188, R253, R292, R293, R294, Table 7.5, Table 9.5.) -/
def Obligations.HoldExpiryInvalidatesThePath : Prop :=
  ∀ (s : State) (p : Idx3),
    let f := s.fe.paths.get p
    ((f.state ≠ .held ∨ s.inPair = true ∨ f.since f.pairBegin < s.conf.holdS * 32768 ∨ f.pair = .conversion ∨ f.pair = .valid) →
      exec (.holdExpiry p) s = .next s) ∧
    (f.state = .held → s.inPair = false → s.conf.holdS * 32768 ≤ f.since f.pairBegin → f.pair ≠ .conversion → f.pair ≠ .valid →
      s.flags.length = 16 → ∃ t, exec (.holdExpiry p) s = .next t ∧
      (t.fe.paths.get p).state = .invalid ∧ (t.fe.paths.get p).v0 = none ∧ (t.fe.paths.get p).v1 = none ∧
      (t.fe.paths.get p).dts0 = [] ∧ (t.fe.paths.get p).dts1 = [] ∧ (t.lane p .up).lock = none ∧ (t.lane p .dn).lock = none ∧
      (t.tiu.paths.get p).window = .acquisition ∧ t.flags.getD 11 ⟨false, 0, 0⟩ = (s.flags.getD 11 ⟨false, 0, 0⟩).occur ∧
      (∀ p', p' ≠ p → t.fe.paths.get p' = s.fe.paths.get p' ∧ t.afe.get p' = s.afe.get p') ∧
      (∀ q, p ∉ s.pipePaths q → t.fe.pipes.get q = s.fe.pipes.get q) ∧ t.ee = s.ee ∧ SameMemory s t ∧ t.bkd = s.bkd)

/-- DISCHARGE_STOP whose conversion passes its checks adds its time to the reference or to the sensor whose turn it was, when it lies within the limit of the discharge (200 µs for TSREF, 2.5 times the first TSREF time of the set for a sensor); beyond the limit there was no stop. The set goes on with the next discharge (one free value is spent, log entry 8). DISCHARGE_TIME_LIMIT of a sensor notes that it gave no time. LOAN_CUTOFF ends a set without result, returns the slot, counts the failure and leaves the set due; without a set it changes nothing. No sensor changes before the set is complete. (R210, R316, R319, R320, R323, R327.) -/
def Obligations.DischargesOfASet : Prop :=
  ∀ (s : State) (q : TempSet) (k : Fin 24), s.temp.set = some q → s.tiu.loan = some k →
    (∀ (x y : Option (Fin 4)) (rest : List (Option (Fin 4))) (start : BitVec 24) (code : BitVec 16) (ce : BitVec 24) (ok : Bool),
      q.left = x :: y :: rest →
      let r := (s.tiu.slot k.val).cal.read code.toNat s.free
      let time := relTicks (stampOf ce.toNat r.x) (start.toNat)
      let stop := decide (time ≤ if x = none then 157286400 else 5 * q.refTimes.headD 0 / 2)
      checkCause r 0 none ok = none → (stop = true ∨ x ≠ none ∨ q.refTimes ≠ [] ∨ q.times ≠ []) →
        exec (.dischargeStop start code ce ok) s = .next { s with
          free := s.free + 1,
          temp := { s.temp with set := some (match x with
            | none => ({ q with left := y :: rest, refTimes := if stop then q.refTimes ++ [time] else q.refTimes } : TempSet)
            | some n => { q with left := y :: rest, times := q.times ++ [(n, if stop then some time else none)] }) } }) ∧
    (∀ (n : Fin 4) (y : Option (Fin 4)) (rest : List (Option (Fin 4))), q.left = some n :: y :: rest →
      exec .dischargeTimeLimit s = .next { s with
        temp := { s.temp with set := some { q with left := y :: rest, times := q.times ++ [(n, none)] } } }) ∧
    (∃ t, exec .loanCutoff s = .next t ∧ t.temp = { s.temp with set := none, lastNoResult := true, setFails := s.temp.setFails + 1 } ∧
      t.tiu.loan = none ∧ t.seq = { s.seq with tempDue := true } ∧ t = { s with temp := t.temp, tiu := t.tiu, seq := t.seq }) ∧
    (∀ u : State, u.temp.set = none → exec .loanCutoff u = .next u)

/-- For every sensor in use and every pair of results other than MISMATCH: from OK a bad result gives SUSPECT and a second one FAULT, a good one in between returns to OK; from FAULT one good result keeps FAULT, a second in a row gives OK, and a bad one in between starts over; from NONE the first result gives OK or FAULT. A result other than OK never changes the value, and counts one fault. (R329, Table 11.4, Table 11.5.) -/
def Obligations.SensorStatesFollowResults : Prop :=
  ∀ (x : Sensor) (r : SensorResult) (a b c d : Int), r ≠ .ok → r ≠ .mismatch →
    (x.state = .ok → (x.take r a b).state = .suspect ∧ ((x.take r a b).take r c d).state = .fault ∧
      ((x.take r a b).take .ok c d).state = .ok) ∧
    (x.state = .fault → x.okOnce = false → (x.take .ok a b).state = .fault ∧ ((x.take .ok a b).take .ok c d).state = .ok ∧
      (((x.take .ok a b).take r a b).take .ok c d).state = .fault) ∧
    (x.state = .none → (x.take .ok a b).state = .ok ∧ (x.take r a b).state = .fault) ∧
    ((x.take r a b).t = x.t ∧ (x.take r a b).faults = x.faults + 1) ∧
    (x.take .ok a b).t = BitVec.ofInt 32 a

/-- For every pipe record whose residues are in range: a valid cycle with forward flow q over n LF periods leaves the forward volume in nL and its residue greater by exactly q × n (modulo the 64-bit register), the residue below 32 768 000, and the reverse side as it was; a cycle while INVALID moves no volume and adds its periods and the gap to the error time and residue, whose sum is exact. (R339, R346.) -/
def Obligations.VolumeIsConserved : Prop :=
  ∀ (p : EePipe) (q : Int) (n gap : Nat), p.fwdRes < 32768000 → p.errRes < 32768 →
    (0 ≤ q → let r := p.integrate false q n gap;
      r.fwdRes < 32768000 ∧ r.rev = p.rev ∧ r.revRes = p.revRes ∧
      (p.fwd.toNat * 32768000 + p.fwdRes + q.toNat * n) % (2 ^ 64 * 32768000) = r.fwd.toNat * 32768000 + r.fwdRes ∧
      (p.errS.toNat * 32768 + p.errRes + gap) % (2 ^ 32 * 32768) = r.errS.toNat * 32768 + r.errRes) ∧
    (let r := p.integrate true q n gap;
      r.fwd = p.fwd ∧ r.rev = p.rev ∧ r.fwdRes = p.fwdRes ∧ r.revRes = p.revRes ∧ r.errRes < 32768 ∧
      (p.errS.toNat * 32768 + p.errRes + gap + n) % (2 ^ 32 * 32768) = r.errS.toNat * 32768 + r.errRes)

/-- For every loop record: in error it integrates nothing and the error time takes the cycle and the gap; for reverse or no flow it integrates nothing, counts no error for the cycle, and shows power 0; for forward flow mass is integrated, heat only for a falling enthalpy in a mode that meters heat, cold only for a rising one in a mode that meters cold with the supply below its limit, and never both. The estimates stay. (R340, R341, R346, Table 12.1.) -/
def Obligations.LoopIntegratesByItsRow : Prop :=
  ∀ (l : EeLoop) (c : LoopConf) (rho dh tSup q : Int) (n gap : Nat),
    let e := l.integrate c true rho dh tSup q n gap
    let r := l.integrate c false rho dh tSup q n gap
    (e.heat = l.heat ∧ e.cold = l.cold ∧ e.mass = l.mass ∧ e.power = 0 ∧ e.state = 4 ∧
      (e.errS, e.errRes) = errTime l.errS l.errRes (gap + n)) ∧
    (r.errS, r.errRes) = errTime l.errS l.errRes gap ∧
    (q * n ≤ 0 → r.heat = l.heat ∧ r.cold = l.cold ∧ r.mass = l.mass ∧ r.power = 0 ∧ r.state = 3 ∧ (r.reverse = true ↔ q * n < 0)) ∧
    (0 < q * n → (r.mass, r.massRes) = carry64 l.mass l.massRes (rho * (q * n)).toNat massDiv ∧ r.reverse = false ∧
      (0 < dh → c.mode ≠ 1 → c.mode ≤ 2 →
        (r.heat, r.heatRes) = carry64 l.heat l.heatRes (rho * (q * n) * dh).toNat energyDiv ∧ r.cold = l.cold ∧ r.state = 1) ∧
      (dh < 0 → c.mode ≠ 0 → c.mode ≤ 2 → tSup < 100 * c.coldMax100 →
        (r.cold, r.coldRes) = carry64 l.cold l.coldRes (-(rho * (q * n) * dh)).toNat energyDiv ∧ r.heat = l.heat ∧ r.state = 2) ∧
      (dh = 0 ∨ (0 < dh ∧ c.mode = 1) ∨ (dh < 0 ∧ c.mode = 0) ∨ (dh < 0 ∧ 100 * c.coldMax100 ≤ tSup) →
        r.heat = l.heat ∧ r.cold = l.cold ∧ r.state = 3)) ∧
    r.estHeat = l.estHeat ∧ r.estCold = l.estCold

/-- For three readings of a register that does not wrap between them and every weight, the pulses of the two intervals add up to those of the whole. A rise that takes a pad above 65 535 pending pulses leaves 65 535 pending, adds the excess to pulse_lost_count and sets the drop flag of the EE part; the first drop of an hour of R540 (3600 device seconds from the drop that opened it) is logged as event 0x0604 and opens the hour, a later one of the hour logs nothing. A rise that fits adds its pulses and drops none. (R357, R359, R540.) -/
def Obligations.PulsesAreCountedAndDropsLogged : Prop :=
  (∀ (a b c : BitVec 64) (w : Nat), a.toNat ≤ b.toNat → b.toNat ≤ c.toNat → pulsesOf a b w + pulsesOf b c w = pulsesOf a c w) ∧
  ∀ (s : State) (b : Bool) (n : Nat), let p := s.ee.pad b; let t := addPulses b n s
    (p.pending.toNat + n ≤ 65535 → t = { s with ee := s.ee.setPad b { p with pending := BitVec.ofNat 16 (p.pending.toNat + n) } }) ∧
    (65535 < p.pending.toNat + n →
      let lost := s.ee.lost + BitVec.ofNat 16 (p.pending.toNat + n - 65535)
      (t.ee.pad b).pending = 65535 ∧ t.ee.pad (!b) = s.ee.pad (!b) ∧ t.ee.lost = lost ∧ t.ee.pulseLost = true ∧
      ((p.hourAt = none ∨ ∃ h, p.hourAt = some h ∧ 3600 ≤ (s.now - h).toNat) →
        (t.ee.pad b).hourAt = some s.now ∧ t.eva = s.arrivals [⟨0x0604, arg (b.toNat * 65536 + lost.toNat)⟩]) ∧
      (∀ h, p.hourAt = some h → (s.now - h).toNat < 3600 → (t.ee.pad b).hourAt = some h ∧ t.eva = s.eva) ∧
      SameRegisters s t ∧ SameMemory s t)

/-- PULSE_HIGH_END brings the pad low; it withdraws the vote of EE when that was the last pulse (no pulse pending on this pad, none high or pending in a low time on the other) and no cycle runs, and otherwise the vote stays. PULSE_LOW_END (no park waiting) brings the pad to rest and starts the next pulse only when one is pending and fits. HOUR_CLOSE of a pad whose hour has passed closes it without an event; of a pipe it closes the hour and keeps its count, and opens none; the management tick (reportHours) closes an hour that is over and logs one event 0x0503 with the count of each hour that has closed. The registers stay in all cases. (R300, R357, R358, R359, R394, R540.) -/
def Obligations.PulsesAndHours : Prop :=
  ∀ (s : State) (b : Bool),
    ((s.ee.pad b).phase = .high →
      let e := s.ee.setPad b { s.ee.pad b with phase := .low }
      let last := (s.ee.pad b).pending == 0 && (s.ee.pad (!b)).phase != .high &&
        ((s.ee.pad (!b)).phase != .low || (s.ee.pad (!b)).pending == 0) && s.seq.phase == .none
      (last = false → exec (.pulseHighEnd b) s = .next { s with ee := e }) ∧
      (last = true → ∃ t, exec (.pulseHighEnd b) s = .next t ∧ t.power.ee = 2 ∧ t = { s with ee := e, power := t.power })) ∧
    ((s.ee.pad b).phase = .low → s.power.parked = none → s.power.latchedState = none →
      ((s.ee.pad b).pending = 0 → ∃ t, exec (.pulseLowEnd b) s = .next t ∧
        t = { s with ee := s.ee.setPad b { s.ee.pad b with phase := .idle }, power := t.power }) ∧
      ((s.ee.pad b).pending ≠ 0 → s.pulseFits = true → s.cycling = true → ∃ t, exec (.pulseLowEnd b) s = .next t ∧ t.power.ee = 0 ∧
        t = { s with ee := s.ee.setPad b { s.ee.pad b with phase := .high, pending := (s.ee.pad b).pending - 1 }, power := t.power })) ∧
    ((s.ee.pad b).phase ≠ .high → exec (.pulseHighEnd b) s = .next s) ∧
    ((s.ee.pad b).phase ≠ .low → exec (.pulseLowEnd b) s = .next s) ∧
    (∀ h, (s.ee.pad b).hourAt = some h → 3600 ≤ (s.now - h).toNat →
      exec (.hourClose (.pad b)) s = .next { s with ee := s.ee.setPad b { s.ee.pad b with hourAt := none } }) ∧
    (∀ p h, (s.fe.pipes.get p).hourAt = some h → 3600 ≤ (s.now - h).toNat →
      exec (.hourClose (.pipe p)) s = .next (setPipe p { s.fe.pipes.get p with
        hourAt := none, hourCount := 0, hourClosed := (s.fe.pipes.get p).hourClosed ++ [(s.fe.pipes.get p).hourCount] } s)) ∧
    (∀ p, let f := s.fe.pipes.get p
      let ended := f.hourAt.any (fun h => decide (3600 ≤ (s.now - h).toNat))
      Logs ((f.hourClosed ++ (if ended then [f.hourCount] else [])).map (fun n => ⟨0x0503, arg (p.num * 2 ^ 24 + n.toNat)⟩))
        (setPipe p { f with hourAt := if ended then none else f.hourAt, hourCount := if ended then 0 else f.hourCount,
                            hourClosed := [] } s)
        (reportHours s p))

/-- AGATE_ANALYSIS_COMPLETE while an analysis runs (no park waiting) ends it: the series is dropped, AG votes SLEEP, and when at least one pipe has a valid result (no ripple or a period found, R304) the result is put in use with the number and time of its sweep; otherwise the result in use before stays and last_invalid is set. Energy and flow registers and the memory stay. (R304, R310, R311, R396, Table 10.1, Table 10.2, Table 10.3.) -/
def Obligations.AnalysisGivesItsResult : Prop :=
  ∀ s : State, s.ag.analysing = true → s.power.parked = none → s.power.latchedState = none →
    let valid := [agatePipe s .one, agatePipe s .two, agatePipe s .three].any (fun r => r.result == .none || r.result == .found)
    ∃ t, exec .agateAnalysisComplete s = .next t ∧ t.ag.analysing = false ∧ t.ag.series = .const [] ∧ t.power.ag = 2 ∧
      t.ag.lastInvalid = !valid ∧
      (valid = true → t.ag.inUse = true ∧ t.ag.resultSweep = s.seq.sweeps ∧ t.ag.resultS = s.seq.lastSweepS ∧
        t.ag.pipes = ⟨agatePipe s .one, agatePipe s .two, agatePipe s .three⟩) ∧
      (valid = false → t.ag.inUse = s.ag.inUse ∧ t.ag.pipes = s.ag.pipes ∧ t.ag.resultSweep = s.ag.resultSweep) ∧
      t.ee = s.ee ∧ t.fe = s.fe ∧ t.seq = s.seq ∧ SameMemory s t ∧ SameSetup s t ∧ t.bkd = s.bkd

/-- A tick is due a device second after the previous one, the first after the strobe of a cycle's snapshot. In an awake device whose cycles run, with no transition and no cycle under way and VDRV off, a due MANAGEMENT_TICK takes the die temperature as corrected (log entry 81), services the watchdog, notes its second, and its vote for RUN stays only while MEMC works; when the compensation differs by 100 ppb from the one in force, the new one is committed; a die temperature 1.5 K from that of the last gain calibration makes one due; a scheduled save that was due is in progress at MEMC, after the erase of its sector where that is not blank, or in MEMC queue behind what was asked before (R125); closed hours and watchdog resets are no longer waiting to be logged; no billing register changes and no byte of the memory changes. In SLEEP or in a transition the tick is only held as a wake request; in a cycle, or with VDRV on, it waits with the vote for RUN, and between cycles SEQ asks for the release of VDRV (R497, log entry 95); a tick that is not due, in Basalt mode, or in DEEP SLEEP or OFF changes nothing. (R348, R352, R378, R394, R395, R405, R496, R497, R521, Table 7.9.) -/
def Obligations.ManagementTickDoesItsWork : Prop :=
  ∀ (s : State) (r : Sensors),
    let die := (s.corrected r).die100
    let v := compensation s.conf die
    let due := match s.hmc.tickS with
      | some x => decide (1 ≤ (s.now - x).toNat)
      | none => s.bkd.strobe
    let takes := s.hmc.on && s.cycling && due && s.power.state != .deep && s.power.state != .off
    (takes = true → s.awake = true → s.power.trans = .none → s.seq.phase = .none → s.prq.vdrv = false →
      ∃ t, exec (.managementTick r) s = .next t ∧
      t.hmc.die100 = die ∧ t.hmc.dog = 0 ∧ t.hmc.tickS = some s.now ∧ t.hmc.dogLog = 0 ∧ (∀ p, (t.fe.pipes.get p).hourClosed = []) ∧ t.power.heldMgmt = none ∧
      t.power.hmc = (if t.mem.busy = none ∧ t.mem.suspended = [] ∧ t.mem.queue = [] then 2 else 0) ∧
      (100 ≤ (v - s.bkd.compPpb.toInt).natAbs → .compensation v ∈ t.bkd.commits) ∧
      (∀ a, s.ee.lastIntS = some a → .alive a ∈ t.bkd.commits) ∧
      (150 ≤ (die - s.hmc.dieAtCal).natAbs → t.seq.gainDue = true) ∧
      (s.mem.usable = true → s.save.due = true → t.save.due = false ∧
        ((∃ b, t.mem.busy = some (s.firstOf (.save false 0 b))) ∨ .save false 0 none ∈ t.mem.queue) ∧
        (s.mem.busy = none → s.mem.suspended = [] → s.mem.queue = [] → s.eva.queue.length < 8 → s.hmc.dogLog = 0 →
          (∀ p, (s.fe.pipes.get p).hourAt = none ∧ (s.fe.pipes.get p).hourClosed = []) →
          t.mem.busy = some (s.firstOf (.save false 0 (some s.snap.regs))))) ∧
      (s.mem.usable = false → t.save.due = s.save.due) ∧
      t.ee = s.ee ∧ SameMemory s t ∧ SameSetup s t ∧ SameLink s t ∧ t.bkd.time = s.bkd.time) ∧
    (takes = true → (s.awake = false ∨ s.power.trans ≠ .none) →
      exec (.managementTick r) s = .next { s with power := { s.power with heldMgmt := some r } }) ∧
    (takes = true → s.awake = true → s.power.trans = .none → (s.seq.phase ≠ .none ∨ s.prq.vdrv = true) →
      ∃ t, exec (.managementTick r) s = .next t ∧ t.power.heldMgmt = some r ∧ t.power.hmc = 0 ∧
        t = { s with power := t.power, prq := t.prq } ∧ (s.seq.phase ≠ .none → t.prq = s.prq) ∧
        (s.seq.phase = .none → s.seq.sweepOn = false → s.prq.req = none → s.power.parked = none →
          ∃ q, t.prq.req = some q ∧ q.why = .releaseVdrv ∧ enOf q.word = false)) ∧
    (takes = false → exec (.managementTick r) s = .next s)

/-- REFERENCE_DECLARED_PRESENT where the counters of R18 stand as it asks (4096 good cycles, and 46 875 ± 47 over 64 LF cycles) outside S05 marks the running reference declared and, in the degraded mode, ends that mode with event 0x0205 and asks for a full calibration before the next pair; in S05 the start goes on to its next step, of which only this much is stated: fuse array and fitted part are as they were; with other counters nothing changes. CLOCK_SWITCH_TO_REFERENCE acts only between pairs, restarts the coarse counter, and ends an exit that waited for it. REFERENCE_DECLARED_ABSENT changes the core onto the RC at once with event 0x0204, latched flag 14 and the FAULT_N latch; a cycle past its launch is abandoned with gains, thresholds, counters and locks as before it. REFERENCE_WAKE_LIMIT begins the same degraded mode with the reason of the failed check, and in that mode only makes the enable follow the link supply: on with it, off in battery supply (DEDUCED, log entry 32). (R15, R16, R17, R18, R19, R198, R224, R408, R419, R520, Table 7.15.) -/
def Obligations.ReferenceComesAndGoes : Prop :=
  ∀ s : State, s.clk.core = true →
    (let p := s.clk.presence
      let present := 4096 ≤ p.good ∧ p.periods = 64 ∧ 46875 - 47 ≤ p.cycles ∧ p.cycles ≤ 46875 + 47
      (¬ present → exec .referenceDeclaredPresent s = .next s) ∧
      (present → s.clk.refOn = true → s.clk.declared = false → s.start.phase ≠ .step 5 →
        (s.clk.absent = false → exec .referenceDeclaredPresent s =
          .next { s with clk := { s.clk with declared := true, presence := ⟨0, 0, 0⟩ } }) ∧
        (s.clk.absent = true → ∃ t, exec .referenceDeclaredPresent s = .next t ∧
          Logs [⟨0x0205, [0]⟩] { s with clk := { s.clk with declared := true, absent := false, presence := ⟨0, 0, 0⟩ },
                                        seq := { s.seq with preFull := s.seq.preFull || !s.inBasalt } } t)) ∧
      (present → s.clk.refOn = true → s.clk.declared = false → s.start.phase = .step 5 → s.start.input.isSome = true →
        ∃ t, exec .referenceDeclaredPresent s = .next t ∧ t.fuse.words = s.fuse.words ∧ SamePart s t)) ∧
    (s.clk.declared = true → s.clk.onRef = false →
      let on : State := { s with clk := { s.clk with onRef := true }, tiu := { s.tiu with coarse := 0 } }
      (s.betweenPairs = false → exec .clockSwitchToReference s = .next s) ∧
      (s.betweenPairs = true → s.seq.phase = .none → s.power.trans = .none → exec .clockSwitchToReference s = .next on) ∧
      (s.betweenPairs = true → s.seq.phase = .none → s.power.trans = .exitSleep → s.prq.req = none → s.power.parked = none →
        s.power.latchedState = none → s.power.heldTick = false → s.power.heldMgmt = none → s.power.state = .run →
        s.bkd.time.alarmFlag = false → ∃ t, exec .clockSwitchToReference s = .next t ∧ t.power.trans = .none ∧
          t.eva = s.eva.grantWaiting s.now ∧ t.eva.waiting = [] ∧
          t = { on with power := t.power, eva := t.eva,
                        mem := { s.mem with busy := t.mem.busy, suspended := t.mem.suspended, queue := t.mem.queue }, bkd := { s.bkd with eventLatch := false } })) ∧
    (s.clk.onRef = true → s.tiu.test = .armed → s.power.parked = none → s.power.latchedState = none →
      (s.seq.phase = .none → s.seq.sweepOn = false → s.seq.job = none → s.prq.vdrv = false → s.power.heldMgmt = none → ∃ u, exec .referenceDeclaredAbsent s =
        .next (request (.faultLatch true) (occur flagRefLost u)) ∧
        Logs [⟨0x0204, [0x40]⟩] { s with clk := { s.clk with onRef := false, declared := false, absent := true, presence := ⟨0, 0, 0⟩ } } u) ∧
      (s.inPair = true → ∃ t, exec .referenceDeclaredAbsent s = .next t ∧ t.seq.phase = .none ∧
        t.seq.skipped = s.seq.skipped + 1 ∧ t.seq.sweepOn = false ∧ t.afe = restLanes s.seq.before ∧ t.clk.onRef = false ∧
        t.clk.absent = true ∧ t.snap = s.snap ∧ t.ee = s.ee ∧ (s.power.heldMgmt = none → t.fe = s.fe) ∧ SameMemory s t)) ∧
    (s.clk.refOn = true → s.clk.declared = false → s.cycling = true → ∀ (c : RefCheck) (m : PhyMeas),
      (s.clk.absent = false → s.seq.phase = .none → s.seq.sweepOn = false → s.power.trans = .none → s.power.parked = none →
        s.power.latchedState = none → s.power.heldMgmt = none → s.prq.vdrv = false → ∃ u, exec (.referenceWakeLimit c m) s = .next (request (.faultLatch true) (occur flagRefLost u)) ∧
        Logs [⟨0x0204, arg (if c.count.any (fun n => decide (n < 46875 - 47) || decide (46875 + 47 < n)) then 0x41 else 0x40)⟩]
          { s with clk := { s.clk with onRef := false, declared := false, absent := true, presence := ⟨0, 0, 0⟩ } } u) ∧
      (s.clk.absent = true → s.suspendedReady = false →
        exec (.referenceWakeLimit c m) s = .next { s with clk := { s.clk with refOn := s.linkSupply, presence := ⟨0, 0, 0⟩ } }))

/-- VCORE_SETTLED in the exit starts the core on the RC at 0.75 V, asks for 0.90 V and, but in a retry (R417; there the acknowledge enables it, DEDUCED, log entry 89), enables the reference: when the Flint banks are whole the registers and residues of pipes and loops, the pulse pending counts, the configuration and the calibration records stay; the management core (but for its watchdog: DEDUCED, log entry 85), SEQ (but for the nominal tick and a full calibration that is owed), the snapshot and the open image session do not, and a conversion set is due; SEQ takes over a power-fail stop from the line (DEDUCED, log entries 31 and 54). With banks that are not whole and no valid save record, nor a blank save area, it is a failure of S11 with reason 0x71. FIRMWARE_RELOAD_COMPLETE loads the bank into the code SRAM; with a digest equal to the one in use it releases the management core, marks a gain calibration to be made before the first launch, takes an initial snapshot, and has a queue of 32 records or more written at once; a different digest is a failure of S08 with reason 0x85. PARKED_SERVICE_TIMEOUT ends the service of a parked member; with nothing running its park entry follows, and the image session, if one is open, is closed. (R322, R353, R393, R398, R402, R403, R417, R486, R501, R538, Table 12.7, Table 14.5.) -/
def Obligations.DeepSleepIsLeft : Prop :=
  (∀ (s : State), s.power.trans = .deepStrobe →
    (s.ee.banksOk = true → s.temp.mismatch = false → s.tsrefMismatch = false → ∃ t, exec .vcoreSettled s = .next t ∧
      t.power.state = .run ∧ t.power.trans = .deepStart ∧
      t.clk = { Clk.reset with core := true, refOn := s.power.fail.isNone, absent := s.clk.absent } ∧ t.prq.vcore = 1 ∧
      t.prq.req = some ⟨requestWord 2 false 0 0, .deepExit, false⟩ ∧
      t.hmc = { Hmc.reset with dogs := s.hmc.dogs, dogLog := s.hmc.dogLog, dog := s.hmc.dog } ∧ t.snap = Snapshot.reset ∧
      (let held := fun (l : EeLoop) => (l.heat, l.cold, l.mass, l.errS, l.estHeat, l.estCold, l.heatRes, l.coldRes, l.massRes, l.errRes)
       t.ee.pipes = s.ee.pipes ∧ held t.ee.loopA = held s.ee.loopA ∧
       held t.ee.loopB = held s.ee.loopB ∧
       t.ee.begin = s.ee.begin ∧ t.ee.padA.pending = s.ee.padA.pending ∧ t.ee.padB.pending = s.ee.padB.pending) ∧
      t.tiu.slots.map Slot.cal = s.tiu.slots.map Slot.cal ∧
      t.seq = { Seq.reset with nominal := s.seq.nominal, pfStop := s.phy.powerFail, tempDue := true, preFull := s.seq.preFull } ∧
      t.power.parked = s.power.parked ∧ SameSetup s t ∧ SameMemory s t ∧ t.flags = s.flags) ∧
    (s.ee.banksOk = false → newestSave s.mem.validSaves = none → s.mem.saveBlank = false → ∃ t, exec .vcoreSettled s = .next t ∧
      t.bkd.ledger.stepFailed = 11 ∧ t.bkd.ledger.failReason = 0x71 ∧
      t.hmc = { Hmc.reset with dogs := s.hmc.dogs, dogLog := s.hmc.dogLog, dog := t.hmc.dog } ∧ t.fuse.words = s.fuse.words)) ∧
  (∀ s : State, s.power.trans = .deepReload → s.hmc.on = false →
    (∀ k, s.banks.fw = some k → codeDigest (s.mem.codeOf k) = s.banks.fwDigest → s.clk.onRef = false → s.clk.absent = false →
      s.save.dueAfterSnap = 0 → s.bkd.time.alarmFlag = false → s.bkd.commits = [] → s.bkd.shadow = none → s.bkd.readers = 0 →
      ∃ t, exec .firmwareReloadComplete s = .next t ∧ t.hmc = { s.hmc with on := true } ∧ t.seq = { s.seq with preGain := true } ∧
        t.banks = { s.banks with code := s.mem.codeOf k } ∧
        (s.eva.queue.length < 32 → t.power = s.power ∧ t.mem = s.mem) ∧
        (32 ≤ s.eva.queue.length → s.mem.usable = true → s.mem.busy = none → s.mem.suspended = [] → s.mem.queue = [] →
          t.mem.busy = some (s.firstOf .log) ∧ t.power.hmc = 0) ∧
        t.snap.time = s.bkd.time ∧ t.save.current = false ∧ t.ee = s.ee ∧ SameMemory s t) ∧
    ((∀ k, s.banks.fw = some k → codeDigest (s.mem.codeOf k) ≠ s.banks.fwDigest) → s.bkd.commits = [] →
      ∃ t, exec .firmwareReloadComplete s = .next t ∧
      t.bkd.ledger.stepFailed = 8 ∧ t.bkd.ledger.failReason = 0x85 ∧ t.fuse.words = s.fuse.words ∧
      t.hmc = { Hmc.reset with dogs := s.hmc.dogs, dogLog := s.hmc.dogLog, dog := t.hmc.dog })) ∧
  (∀ s : State,
    (s.power.serving = false → exec .parkedServiceTimeout s = .next s) ∧
    (s.power.serving = true → s.power.parked = none → s.power.latchedState = none →
      exec .parkedServiceTimeout s = .next { s with power := { s.power with serving := false } }) ∧
    (∀ p, s.power.parked = some p → s.power.serving = true → s.power.latchedState = none →
      State.parkReady { s with power := { s.power with serving := false } } = true →
      ∃ t, exec .parkedServiceTimeout s = .next t ∧ t.img = none ∧ t.power.trans ≠ .none ∧ t.power.parked = some p ∧
        t.power.serving = false ∧ SameRegisters s t ∧ t.bkd.time = s.bkd.time))

/-- Each of the eight commands completes for every state and operand; at S13, what INSERTION_GAP_FOUND leaves is stated for a state with no commit waiting. INSERTION_REQUEST: a member goes on only with a good line and no power-fail warning, its pass element open while the downstream is isolated, a head raises its line again, its bypass open (DEDUCED, log entry 77). INSERTION_GAP_FOUND: at the gap the bypass opens, the repeater goes live, the insertion is counted and logged as event 0x0801 (at S13 the start succeeds with it). REMOVAL closes the bypass with the same event and argument 0, and resets LNK with it when a BLOCK RESET naming LNK waits, the counters kept (what that reset clears: log entry 28); REMOVAL_PASS_OPEN opens the pass element, and an insertion that is wanted begins again. LDIE_SUPPLY_LOSS closes the bypass and opens the pass element and a head's injector. The tail flag follows the current, in an idle gap, for which a change waits, but stays set while isolated. A downstream short opens the pass element with one event 0x0802 per episode; a retry that finds it gone closes it again. Where its condition does not hold, each of them answers an unchanged next state. (R147, R428, R430, R442, R443, R445, R446, R447, R451, Table 15.5, Table 15.6, Table 15.7.) -/
def Obligations.MemberInsertsAndLeaves : Prop :=
  ∀ s : State,
    let wanted : Insertion := if s.linkWanted = true ∧ s.role ≠ .standAlone then .waitLine else .out
    let closed : Phy := { s.phy with
      bypassClosed := true, repeater := false, dir := none, isolated := false, injector := false, retrying := false, tailNext := none,
      tail := s.phy.tailNext.getD s.phy.tail }
    let left : List Event := if s.phy.ins = .inserted then [⟨0x0801, [0]⟩] else []
    (∀ ok : Bool, exec (.insertionRequest ok) s = .next (
      if s.phy.ins = .waitLine ∧ s.phy.powerFail = false then
        if s.role = .head then { s with phy := { s.phy with bypassClosed := false, injector := true, retrying := false, ins := .out } }
        else if ok then { s with phy := { s.phy with ins := .waitGap, passClosed := !s.phy.isolated } } else s
      else s)) ∧
    (s.phy.ins = .waitGap → s.phy.powerFail = false →
      let u : State := { s with phy := { s.phy with
        ins := .inserted, bypassClosed := false, repeater := true, dir := none, inserts := s.phy.inserts + 1 } }
      (s.start.phase ≠ .step 13 → ∃ t, exec .insertionGapFound s = .next t ∧ Logs [⟨0x0801, [1]⟩] u t) ∧
      (s.start.phase = .step 13 → s.bkd.commits = [] → ∃ t, exec .insertionGapFound s = .next t ∧ t.start.phase = .running ∧
        t.bkd.ledger.failCount = 0 ∧ t.bkd.ledger.startActive = false ∧ t.bkd.ledger.degradedMask = s.start.degraded ∧
        t.phy = u.phy)) ∧
    ((s.phy.ins ≠ .waitGap ∨ s.phy.powerFail = true) → exec .insertionGapFound s = .next s) ∧
    (s.lnk.resetAfter ≠ some 7 → ∃ t, exec .removal s = .next t ∧
      Logs left { s with phy := { closed with ins := if s.phy.passClosed then .removing else wanted } } t) ∧
    (s.lnk.resetAfter = some 7 → ∃ t, exec .removal s = .next t ∧ t.eva = s.arrivals left ∧
      t.lnk = { Lnk.reset with on := s.lnk.on, address := s.lnk.address } ∧ t.phy.passClosed = s.phy.passClosed ∧
      t.phy.repeater = false ∧ t.phy.dir = none ∧ t.phy.tail = false ∧ t.phy.inverted = false ∧
      t.phy.inserts = s.phy.inserts ∧ t.phy.isolates = s.phy.isolates ∧ t.phy.violations = s.phy.violations ∧
      t.bkd = s.bkd ∧ t.ee = s.ee ∧ SameMemory s t) ∧
    exec .removalPassOpen s = .next (if s.phy.ins = .removing then
      { s with phy := { s.phy with ins := if s.linkWanted = true ∧ s.role = .member then .waitLine else .out, passClosed := false } }
      else s) ∧
    (∃ t, exec .ldieSupplyLoss s = .next t ∧
      Logs left { s with phy := { closed with ins := wanted, passClosed := false, tail := false, holdUp := false } } t) ∧
    (∀ b : Bool, exec (.tailFlagChange b) s = .next { s with phy :=
      if s.phy.dir = none then { s.phy with tail := b || s.phy.isolated, tailNext := none } else { s.phy with tailNext := some b } }) ∧
    (∀ v : BitVec 16,
      (s.phy.passClosed = true → s.phy.isolated = false → s.phy.ins ≠ .removing → ∃ t, exec (.downstreamShort v) s = .next t ∧
        Logs [⟨0x0802, arg v.toNat⟩] { s with phy := { s.phy with
          passClosed := false, isolated := true, tail := true, isolates := s.phy.isolates + 1 } } t) ∧
      ((s.phy.passClosed = false ∨ s.phy.isolated = true ∨ s.phy.ins = .removing) → exec (.downstreamShort v) s = .next s)) ∧
    (∀ gone : Bool, exec (.isolationRetry gone) s = .next (if s.phy.isolated = true ∧ gone = true then
      { s with phy := { s.phy with passClosed := true, isolated := false } } else s))

/-- Each of the five commands completes for every state and operand; at S13, what HEAD_LINE_FAULT and LINE_RAMP_COMPLETE leave is stated for a state with no commit waiting. HEAD_LINE_FAULT of a head opens its injector for a retry, and at S13 it is a failure with reason 0x7E; HEAD_LINE_RETRY closes it and counts; LINE_RAMP_COMPLETE puts the head on the line, logs the retries of the episode as event 0x0803, counts an insertion only when the head was not inserted, and at S13 the start succeeds with it. After idle the repeater takes LU before LD, holds its direction against the other port, and gives it up after six idle bit times, when a waiting change of the tail flag is applied. Where its condition does not hold, each of them answers an unchanged next state. (R147, R425, R426, R438, R446, Table 15.10.) -/
def Obligations.HeadLineAndRepeater : Prop :=
  ∀ s : State,
    (s.role = .head → s.phy.injector = true →
      (s.start.phase ≠ .step 13 →
        exec .headLineFault s = .next { s with phy := { s.phy with injector := false, retrying := true } }) ∧
      (s.start.phase = .step 13 → s.bkd.commits = [] → ∃ t, exec .headLineFault s = .next t ∧ t.bkd.ledger.stepFailed = 13 ∧
        t.bkd.ledger.failReason = 0x7E ∧ t.fuse.words = s.fuse.words ∧
        t.hmc = { Hmc.reset with dogs := s.hmc.dogs, dogLog := s.hmc.dogLog, dog := t.hmc.dog })) ∧
    ((s.role ≠ .head ∨ s.phy.injector = false) → exec .headLineFault s = .next s ∧ exec .lineRampComplete s = .next s) ∧
    exec .headLineRetry s = .next (if s.phy.retrying = true then
      { s with phy := { s.phy with injector := true, retrying := false, retries := s.phy.retries + 1 } } else s) ∧
    (s.role = .head → s.phy.injector = true →
      let es : List Event := if s.phy.retries = 0 then [] else [⟨0x0803, arg (min 65535 s.phy.retries)⟩]
      let u : State := { s with phy := { s.phy with ins := .inserted, bypassClosed := false, retries := 0 } }
      (s.phy.ins = .inserted → ∃ t, exec .lineRampComplete s = .next t ∧ Logs es u t) ∧
      (s.phy.ins ≠ .inserted → s.start.phase ≠ .step 13 → ∃ t, exec .lineRampComplete s = .next t ∧
        Logs (es ++ [⟨0x0801, [1]⟩]) { u with phy := { u.phy with inserts := u.phy.inserts + 1 } } t) ∧
      (s.phy.ins ≠ .inserted → s.start.phase = .step 13 → s.bkd.commits = [] → ∃ t, exec .lineRampComplete s = .next t ∧
        t.start.phase = .running ∧ t.bkd.ledger.startActive = false ∧ t.bkd.ledger.failCount = 0 ∧
        t.phy = { u.phy with inserts := u.phy.inserts + 1 })) ∧
    (∀ lu ld : Bool, exec (.repeaterDirectionTaken lu ld) s = .next (if s.phy.repeater = true ∧ s.phy.dir = none then
      { s with phy := { s.phy with dir := if lu then some .lu else if ld then some .ld else none } } else s)) ∧
    (s.phy.tailNext = none → exec .repeaterIdleRelease s = .next { s with phy := { s.phy with dir := none } }) ∧
    (∀ b, s.phy.tailNext = some b → exec .repeaterIdleRelease s = .next { s with phy := { s.phy with
      dir := none, tailNext := none, tail := b || s.phy.isolated } })

/-- A request of these types that reaches a device in normal operation with nothing in its way is answered with an ACK of the payload of Table 16.12 from the requester-visible address, kept for a repetition; READ of an unknown part or of a range outside it gets NAK 0x05. Nothing but the response, the polarity and the direction of the line and the vote held while it was served changes. PING, IDENTIFY and STATUS are answered so in Basalt mode too, and while a power-fail save or a commit check runs, where READ gets NAK 0x04; in Basalt mode without one it gets NAK 0x03. A unicast request of any type that repeats the last one answered gets the stored response again and has no effect, before any other check of the request (DEDUCED, log entry 20). (R161, R439, R457, R459, R480, R482, R483, R484, Table 16.12, Table 16.13.) -/
def Obligations.ReadsAnswerWithoutEffect : Prop :=
  ∀ (s : State) (f : Frame),
    let Reaches : BitVec 6 → Prop := fun ty => s.hears = true ∧ f.dest = s.lnk.address ∧ f.dest ≠ addrUnassigned ∧
      f.dest ≠ addrBroadcast ∧ sound ty f = true ∧ lengthFits ty f.payload = true ∧ s.repeated ty f = none ∧
      ((s.head.outstanding = false ∧ s.hmc.on = true) ∨ s.start.phase = .basalt)
    (Reaches typePing → ∃ t, exec (.ping f) s = .next t ∧ Answers typePing f typeAck (pingPayload s.snap) s t ∧
      t = { s with lnk := t.lnk, phy := { s.phy with inverted := f.inverted, dir := some .lu } } ∧ t.lnk.address = s.lnk.address) ∧
    (Reaches typeIdentify → ∃ t, exec (.identify f) s = .next t ∧ Answers typeIdentify f typeAck (identifyPayload s) s t ∧
      OnlyAnswers s t) ∧
    (Reaches typeStatus → ∃ t, exec (.status f) s = .next t ∧ Answers typeStatus f typeAck (statusPayload s) s t ∧ OnlyAnswers s t) ∧
    (Reaches typeRead → ∃ t, exec (.read f) s = .next t ∧
      ((s.saveRuns = true ∨ s.mem.answerWaits = true) → Answers typeRead f typeNak [0x04, 0x03, 0, 0] s t ∧
        t = { s with lnk := t.lnk, phy := { s.phy with inverted := f.inverted, dir := some .lu } }) ∧
      (s.saveRuns = false → s.mem.answerWaits = false → s.start.phase = .basalt →
        Answers typeRead f typeNak [0x03, 0x03, 0, 0] s t ∧
        t = { s with lnk := t.lnk, phy := { s.phy with inverted := f.inverted, dir := some .lu } })) ∧
    (Serves s typeTimeRead f → ∃ t, exec (.timeRead f) s = .next t ∧ Answers typeTimeRead f typeAck (timePayload s) s t ∧
      OnlyAnswers s t) ∧
    (Serves s typeRead f → ∃ t, exec (.read f) s = .next t ∧ OnlyAnswers s t ∧
      (∀ d, readPayload s.snap f.payload = some d → Answers typeRead f typeAck d s t) ∧
      (readPayload s.snap f.payload = none → Answers typeRead f typeNak [0x05, 0x03, 0, 0] s t)) ∧
    (∀ x, s.hears = true → f.dest = s.lnk.address → f.dest ≠ addrBroadcast → f.dest ≠ addrUnassigned →
      let again : State := { s with
        phy := { s.phy with inverted := f.inverted, dir := some .lu }, lnk := { s.lnk with sentLu := some x } }
      (∀ c ∈ ([(typePing, .ping f), (typeIdentify, .identify f), (typeRead, .read f), (typeStatus, .status f), (typeClear, .clear f),
          (typeAssign, .assign f), (typeTimeSet, .timeSet f), (typeTimeRead, .timeRead f), (typeAlarmSet, .alarmSet f),
          (typeState, .state f), (typeBlockReset, .blockReset f), (typeImageOpen, .imageOpen f), (typeImageBlock, .imageBlock f),
          (typeImageCommit, .imageCommit f), (typeImageAbort, .imageAbort f), (typeLogRead, .logRead f)] : List (BitVec 6 × Instr)),
        sound c.1 f = true → s.repeated c.1 f = some x → exec c.2 s = .next again) ∧
      (∀ stuck lock, sound typeClaim f = true → s.repeated typeClaim f = some x → exec (.claim f stuck lock) s = .next again))

/-- CLEAR clears each flag of its mask whose generation is the one carried, leaves every other flag, logs one event 0x0804 per flag cleared and answers the mask afterwards. ASSIGN acts only with the device UID: the address is committed, logged and, in a member, used at once; one outside 1 to 1000 gets NAK 0x05. TIME SET is committed, or deferred while a sweep runs, from the tick that begins it (DEDUCED, log entry 37), or an earlier one is deferred, which it replaces. ALARM SET commits the alarm with alarm_src 1. STATE 0 to 2 ends a park and sets the hold; 3 and 4 park; during a transition, and but for 0 during a sweep, it is latched and nothing else changes. A bad argument, 3 or 4 to a head among them, gets NAK 0x05 and leaves everything else as it was; where two reasons apply, ALARM SET with OSF set gets 0x03 (DEDUCED, log entry 20). The vote that LNK holds after serving is SLEEP (log entry 36). (R162, R268, R376, R383, R397, R408, R475, R479, R482, R483, Table 14.3.) -/
def Obligations.SettingsTakeEffect : Prop :=
  ∀ (s : State) (f : Frame), let p := f.payload
    (Serves s typeClear f → ∃ t, exec (.clear f) s = .next t ∧
      let mask : BitVec 16 := BitVec.ofNat 16 (fieldN p 0 2)
      let hit := fun (k : Nat) => let x := s.flags.getD k ⟨false, 0, 0⟩
        mask.getLsbD k && x.set && x.gen == p.getD (2 + ones (mask &&& BitVec.ofNat 16 (2 ^ k - 1))) 0
      (∀ k, k < 16 → t.flags.getD k ⟨false, 0, 0⟩ = (let x := s.flags.getD k ⟨false, 0, 0⟩
        if hit k then { x with set := false } else x)) ∧
      t.eva = s.arrivals ((List.range 16).filterMap (fun k => if hit k then
        some ⟨0x0804, arg ((s.flags.getD k ⟨false, 0, 0⟩).gen.toNat * 256 + k)⟩ else none)) ∧
      (∃ d, Answers typeClear f typeAck d s t ∧ d.drop 2 = be 2 (latchedMask t.flags)) ∧ t.ee = s.ee ∧ SameMemory s t) ∧
    (Serves s typeAssign f →
      (fieldN p 0 8 ≠ s.fuse.uid.toNat → ∃ t, exec (.assign f) s = .next t ∧ Discards f s t) ∧
      (fieldN p 0 8 = s.fuse.uid.toNat → memberAddress (addressAt p 8) = false →
        ∃ t, exec (.assign f) s = .next t ∧ Answers typeAssign f typeNak [0x05, 0x0A, 0, 0] s t ∧ t.lnk.address = s.lnk.address ∧
          t = { s with lnk := t.lnk, phy := { s.phy with inverted := f.inverted, dir := some .lu } }) ∧
      (fieldN p 0 8 = s.fuse.uid.toNat → memberAddress (addressAt p 8) = true → s.role = .member →
        ∃ t, exec (.assign f) s = .next t ∧ t.lnk.address = addressAt p 8 ∧ Answers typeAssign f typeAck [] s t ∧
          t.bkd = { s.bkd with commits := s.bkd.commits ++ [.address (addressAt p 8)] } ∧
          t.eva = s.arrivals [⟨0x0809, arg (addressAt p 8).toNat⟩] ∧ t.ee = s.ee ∧ SameMemory s t)) ∧
    (Serves s typeTimeSet f → ∃ t, exec (.timeSet f) s = .next t ∧
      ((calOf p).ok = false → Answers typeTimeSet f typeNak [0x05, 0x10, 0, 0] s t ∧ OnlyAnswers s t) ∧
      ((calOf p).ok = true → s.inSweep = false → s.seq.deferred = none → Answers typeTimeSet f typeAck [0] s t ∧
        OnlyAnswers { s with bkd := { s.bkd with commits := s.bkd.commits ++ [.time (calOf p)] } } t) ∧
      ((calOf p).ok = true → (s.inSweep = true ∨ s.seq.deferred ≠ none) → Answers typeTimeSet f typeAck [1] s t ∧
        OnlyAnswers { s with seq := { s.seq with deferred := some (calOf p) } } t)) ∧
    (Serves s typeAlarmSet f → ∃ t, exec (.alarmSet f) s = .next t ∧
      (s.bkd.time.osf = true → Answers typeAlarmSet f typeNak [0x03, 0x12, 0, 0] s t ∧ OnlyAnswers s t) ∧
      (s.bkd.time.osf = false → alarmOf p = none → Answers typeAlarmSet f typeNak [0x05, 0x12, 0, 0] s t ∧ OnlyAnswers s t) ∧
      (∀ a, alarmOf p = some a → s.bkd.time.osf = false → Answers typeAlarmSet f typeAck [] s t ∧
        OnlyAnswers { s with bkd := { s.bkd with commits := s.bkd.commits ++ [.alarm a true] } } t)) ∧
    (Serves s typeState f → ∃ t, exec (.state f) s = .next t ∧ let n := fieldN p 0 1
      (4 < n ∨ (2 < n ∧ s.role = .head) → Answers typeState f typeNak [0x05, 0x14, 0, 0] s t ∧ OnlyAnswers s t) ∧
      (n ≤ 2 → s.power.trans = .none → (s.inSweep = false ∨ n = 0) → Answers typeState f typeAck [] s t ∧
        t = { s with lnk := t.lnk, power := t.power, phy := { s.phy with inverted := f.inverted, dir := some .lu } } ∧
        t.power = { s.power with lnk := 2, hmc := t.power.hmc, idleTimer := t.power.idleTimer, state := t.power.state, parked := none,
                                 serving := false, hold := if n = 2 then none else some (if n = 0 then 0 else 1),
                                 latchedState := none }) ∧
      (3 ≤ n → n ≤ 4 → s.role = .member → s.power.trans = .none → s.inSweep = false → s.mem.suspended = [] →
        Answers typeState f typeAck [] s t ∧ t.power.parked = some (if n = 3 then .deep else .off) ∧ t.power.hold = none) ∧
      (n ≤ 4 → (s.role = .member ∨ n ≤ 2) → (s.power.trans ≠ .none ∨ (s.inSweep = true ∧ n ≠ 0)) →
        Answers typeState f typeAck [] s t ∧
        t = { s with lnk := t.lnk, power := t.power, phy := { s.phy with inverted := f.inverted, dir := some .lu } } ∧
        t.power = { s.power with lnk := 2, hmc := t.power.hmc, idleTimer := t.power.idleTimer, state := t.power.state,
                                 latchedState := some (BitVec.ofNat 3 n) }))

/-- BLOCK RESET is logged and acknowledged. One of AG clears its result; one of HMC restarts the management core and closes an image session. The reset of a measuring block during a cycle waits; BLOCK_RESET_ASSERT makes the waiting ones once the cycle is over, keeping registers and link. A reset of LNK waits for the ACK to have left, and BLOCK_RESET_ASSERT then closes the bypass and makes it, the counters kept (what it clears: log entry 28; a head raises its line again: DEDUCED, log entry 77); one of MEMC for the operation in progress; the ledger reset makes alt_mask 0; the device reset is an ordered restart; an unknown ID gets NAK 0x05. A frame with bad framing is counted, one with a bad header check, above 240 bytes, for another address or for everyone is dropped, one with a bad frame check is answered with NAK 0x01 that is not kept for a repetition (DEDUCED, log entry 23), and one of an unknown type with NAK 0x02, before whether the device is busy (DEDUCED, log entry 20). After 2 s the kept response lapses. (R132, R436, R442, R451, R455, R456, R457, R483, R506, R511, Table 10.3, Table 17.4.) -/
def Obligations.BlockResetsAndUnservedFrames : Prop :=
  ∀ (s : State) (f : Frame), let id := fieldN f.payload 0 1
    (Serves s typeBlockReset f → ∃ t, exec (.blockReset f) s = .next t ∧
      let kept := fun (x : Option Byte) => t.lnk = { s.lnk with
        sentLu := some (.frame f.src s.lnk.address typeAck f.seq []), resetAfter := x,
        cache := some ⟨f.src, typeBlockReset, f.seq, .frame f.src s.lnk.address typeAck f.seq []⟩ }
      (10 < id → Answers typeBlockReset f typeNak [0x05, 0x18, 0, 0] s t ∧ OnlyAnswers s t) ∧
      (1 ≤ id → id ≤ 5 → s.seq.phase ≠ .none → Answers typeBlockReset f typeAck [] s t ∧
        t.seq = { s.seq with resets := s.seq.resets ++ [BitVec.ofNat 8 id] } ∧ t.eva = s.arrivals [⟨0x080C, arg id⟩] ∧
        t.ee = s.ee ∧ t.fe = s.fe ∧ t.afe = s.afe ∧ t.tiu = s.tiu) ∧
      (id = 6 → s.ag.analysing = false → s.power.parked = none → s.power.latchedState = none → Answers typeBlockReset f typeAck [] s t ∧
        t.ag = { Ag.reset with outOfService := s.ag.outOfService, noResult := s.inSweep, abandoned := s.inSweep } ∧
        t.eva = s.arrivals [⟨0x080C, [6]⟩] ∧ t.seq = s.seq ∧ t.ee = s.ee ∧ t.fe = s.fe ∧ t.hmc = s.hmc ∧ SameMemory s t) ∧
      (id = 8 → kept s.lnk.resetAfter ∧ t.img = none ∧ t.hmc = { Hmc.reset with
          on := true, tickS := s.hmc.tickS, dieAtCal := s.hmc.dieAtCal, dogs := s.hmc.dogs, dogLog := s.hmc.dogLog } ∧
        t.seq = s.seq ∧ t.ee = s.ee ∧ t.fe = s.fe ∧ t.ag = s.ag ∧ t.bkd = s.bkd ∧ ClosedMemory s t ∧
        t.eva = s.arrivals (⟨0x080C, [8]⟩ :: (match s.img with
          | some i => [⟨0x080A, [BitVec.ofNat 32 (bankArg i.firmware i.bank 16), 0]⟩]
          | none => []))) ∧
      (id = 7 → kept (some 7) ∧ t.eva = s.arrivals [⟨0x080C, arg 7⟩] ∧ t.phy = { s.phy with inverted := f.inverted, dir := some .lu }) ∧
      (id = 9 → s.mem.busy ≠ none → kept s.lnk.resetAfter ∧ t.mem.resetDue = true ∧ t.img = s.img ∧ SameMemory s t) ∧
      (id = 10 → Answers typeBlockReset f typeAck [] s t ∧ t.ledger = { s.ledger with altMask := 0 } ∧ t.ee = s.ee) ∧
      (id = 0 → t.start.phase = .inReset ∧ t.lnk.on = false ∧ t.clk.core = false ∧ SameRegisters s t ∧
        t.hmc = { Hmc.reset with dogs := s.hmc.dogs, dogLog := s.hmc.dogLog, dog := t.hmc.dog })) ∧
    (s.seq.phase ≠ .none → s.lnk.resetAfter ≠ some 7 → exec .blockResetAssert s = .next s) ∧
    ((s.seq.phase ≠ .none ∨ s.seq.resets = []) → s.lnk.resetAfter = some 7 → ∃ t, exec .blockResetAssert s = .next t ∧
      t.lnk = { Lnk.reset with on := s.lnk.on, address := s.lnk.address } ∧ t.phy.ins ≠ .inserted ∧
      (let raised := s.role = .head ∧ s.linkWanted = true
       (raised → t.phy.bypassClosed = false ∧ t.phy.injector = true) ∧ (¬ raised → t.phy.bypassClosed = true ∧ t.phy.injector = false)) ∧
      t.phy.passClosed = s.phy.passClosed ∧ t.phy.repeater = false ∧ t.phy.dir = none ∧ t.phy.tail = false ∧
      t.phy.inserts = s.phy.inserts ∧ t.phy.isolates = s.phy.isolates ∧ t.phy.violations = s.phy.violations ∧
      t.eva = s.arrivals (if s.phy.ins = .inserted then [⟨0x0801, [0]⟩] else []) ∧ t.seq = s.seq ∧ t.bkd = s.bkd ∧ t.ee = s.ee ∧
      SameMemory s t) ∧
    (s.lnk.resetAfter ≠ some 7 → s.seq.phase = .none → s.power.parked = none → s.power.latchedState = none → (∀ r ∈ s.seq.resets, 1 ≤ r.toNat ∧ r.toNat ≤ 5) →
      ∃ t, exec .blockResetAssert s = .next t ∧
      t.seq.resets = [] ∧ t.ee.pipes = s.ee.pipes ∧ t.ee.loopA.heat = s.ee.loopA.heat ∧ t.ee.loopA.cold = s.ee.loopA.cold ∧
      t.lnk = s.lnk ∧ t.phy = s.phy ∧ (s.power.heldMgmt = none → t.hmc = s.hmc) ∧ SameMemory s t) ∧
    exec (.unservedFrame .framing f) s = .next (if s.receives then
      { s with phy := { s.phy with violations := s.phy.violations + 1 } } else s) ∧
    (∀ ty, s.hears = false → exec (.unservedFrame (.judged ty) f) s = .next s) ∧
    (∀ ty, s.hears = true → ∃ t, exec (.unservedFrame (.judged ty) f) s = .next t ∧
      (headerGood ty f = false ∨ 240 < f.payload.length ∨ s.isFor ty f = false ∨ f.dest = addrBroadcast → Discards f s t) ∧
      (headerGood ty f = true → f.payload.length ≤ 240 → f.dest = s.lnk.address → f.dest ≠ addrUnassigned → f.dest ≠ addrBroadcast →
        (checkGood ty f = false → t = { s with
          phy := { s.phy with inverted := f.inverted, dir := some .lu },
          lnk := { s.lnk with sentLu := some (.frame f.src s.lnk.address typeNak f.seq [0x01, ty.setWidth 8, 0, 0]) } }) ∧
        (checkGood ty f = true → servedTypes.contains ty = false → Answers ty f typeNak [0x02, ty.setWidth 8, 0, 0] s t ∧
          t = { s with lnk := t.lnk, phy := { s.phy with inverted := f.inverted, dir := some .lu } }) ∧
        (checkGood ty f = true → servedTypes.contains ty = true → Discards f s t))) ∧
    exec .responseCacheExpiry s = .next { s with lnk := { s.lnk with cache := none } }

/-- A frame to 1023 of a type other than SWEEP, ENUMERATE, NOTICE WINDOW, TIME SET and STATE changes nothing in any device that hears it (but for the polarity of the line as received). A TIME SET and a STATE to 1023 that reach a member in normal operation with good checks take effect, without a response: each STATE target sets its park and its hold, or is latched during a transition; the three train requests arm it. A member at 1022 takes part in trains only: TIME SET and STATE change nothing there. (R481.) -/
def Obligations.BroadcastsServeFiveTypes : Prop :=
  ∀ (s : State) (f : Frame), s.hears = true → f.dest = addrBroadcast →
    (∀ c ∈ ([.ping f, .identify f, .read f, .status f, .clear f, .assign f, .timeRead f, .alarmSet f, .blockReset f, .imageOpen f,
        .imageBlock f, .imageCommit f, .imageAbort f, .logRead f] : List Instr),
      ∃ t, exec c s = .next t ∧ Discards f s t) ∧
    (∀ stuck lock, ∃ t, exec (.claim f stuck lock) s = .next t ∧ Discards f s t) ∧
    (∀ ty, ∃ t, exec (.unservedFrame (.judged ty) f) s = .next t ∧ Discards f s t) ∧
    (s.role = .member → s.lnk.address = addrUnassigned →
      (∃ t, exec (.timeSet f) s = .next t ∧ Discards f s t) ∧ (∃ t, exec (.state f) s = .next t ∧ Discards f s t)) ∧
    (s.role = .member → s.lnk.address ≠ addrUnassigned → s.head.outstanding = false → s.saveRuns = false → s.mem.answerWaits = false →
      s.start.phase ≠ .basalt → s.hmc.on = true →
      (sound typeTimeSet f = true → f.payload.length = 6 → (calOf f.payload).ok = true → s.inSweep = false → s.seq.deferred = none →
        ∃ t, exec (.timeSet f) s = .next t ∧ t.lnk = s.lnk ∧ .time (calOf f.payload) ∈ t.bkd.commits) ∧
      (sound typeState f = true → f.payload.length = 1 → fieldN f.payload 0 1 ≤ 4 → ∃ t, exec (.state f) s = .next t ∧
        let n := fieldN f.payload 0 1
        (s.power.trans = .none → (s.inSweep = false ∨ n = 0) → s.mem.suspended = [] → t.lnk = s.lnk ∧
          t.power.parked = (if n = 3 then some .deep else if n = 4 then some .off else none) ∧
          t.power.hold = (if n = 0 then some 0 else if n = 1 then some 1 else none)) ∧
        ((s.power.trans ≠ .none ∨ (s.inSweep = true ∧ n ≠ 0)) → t.lnk = s.lnk ∧ t.power.parked = s.power.parked ∧
          t.power.hold = s.power.hold ∧ t.power.latchedState = some (BitVec.ofNat 3 n))) ∧
      (f.payload.length = 4 →
        (sound typeSweep f = true → ∃ t x, exec (.sweep f) s = .next t ∧ t.lnk.armed = some x ∧ x.kind = .sweep) ∧
        (sound typeEnumerate f = true → ∃ t x, exec (.enumerate f) s = .next t ∧ t.lnk.armed = some x ∧ x.kind = .enumerate) ∧
        (sound typeNotice f = true → ∃ t x, exec (.noticeWindow f) s = .next t ∧ t.lnk.armed = some x ∧ x.kind = .notice)))

/-- In a chain member or head, while OSF is set, no instant fires the alarm: a second that counts onto the alarm (on an edge that is not also a commit edge, log entry 82) leaves the alarm flag, the last firing and the latched flags as they were; and no ALARM SET changes the backup domain, whatever frame carries it. In a stand-alone device OSF does not block the alarm: an instant fires by its mode alone, the second that enters it sets the flag, and OSF stays set. The straps have been read (before that, see TimeSetAcrossAlarmFires). (R386.) -/
def Obligations.AlarmNeedsTrustedTime : Prop :=
  ∀ s : State, s.strapsRead = true → s.bkd.time.osf = true →
    (s.role ≠ .standAlone →
      (∀ c : Cal, s.alarmFires c = false) ∧
      (s.bkd.commits = [] ∨ Config.sharesEdge s.free = false → ∀ v, ∃ t, exec (.rtcSecond v) s = .next t ∧
        t.bkd.time.alarmFlag = s.bkd.time.alarmFlag ∧ t.bkd.time.alarmLate = s.bkd.time.alarmLate ∧
        t.bkd.lastFired = s.bkd.lastFired ∧ t.flags = s.flags ∧ t.save = s.save) ∧
      (∀ f : Frame, ∃ t, exec (.alarmSet f) s = .next t ∧ t.bkd = s.bkd)) ∧
    (s.role = .standAlone →
      (∀ c : Cal, s.alarmFires c =
        (s.bkd.alarm.mode == 1 || (s.bkd.alarm.mode == 2 && s.bkd.lastFired != c.dateKey))) ∧
      (s.bkd.alive = true → s.bkd.alarm.mode = 1 → s.bkd.time.cal.next.isAlarm s.bkd.alarm = true →
        s.bkd.commits = [] ∨ Config.sharesEdge s.free = false → ∀ v, ∃ t, exec (.rtcSecond v) s = .next t ∧ t.bkd.time.alarmFlag = true ∧ t.bkd.time.osf = true ∧
          t.bkd.lastFired = s.bkd.time.cal.next.dateKey))

/-- IMAGE OPEN with nothing open opens the session named, logs it and asks MEMC for the erase; a second one gets NAK 0x03, with bad arguments too (DEDUCED, log entries 20 and 21). The completed erase leaves 0xFF in every sector that the image reaches (NOR) or in the first 64 bytes (FRAM), and every other byte as it was. A block at next_offset that lies below the header is buffered and answered; one that reaches above it is answered when MEMC has programmed its data above the header (DESIGN CHOICE, log entry 79); the block just taken is answered again; another offset gets NAK 0x05. After a failed erase a block gets NAK 0x07 with detail 0x0B, and the session closes. A commit that fails a check closes the session with NAK 0x07 and the reason; one that passes programs the header, clears alt_mask and makes an ordered restart. IMAGE ABORT and 60 s without a block close the session with an event, and what it asked of MEMC lapses; a sector still being erased is erased to its end, which concerns no later session (R508). A session that closes so leaves the 64 bytes at the base of its bank 0xFF, and every other byte as it was (the means: DESIGN CHOICE, log entry 29). (R107, R125, R155, R508, R509, R510, R511, Table 16.13, Table 17.5, Table 17.3.) -/
def Obligations.ImageSessionWritesItsBank : Prop :=
  ∀ (s : State) (f : Frame), let p := f.payload
    let lone : Prop := MemoryInv s ∧ s.mem.queue = [] ∧ s.mem.suspended = [] ∧ s.mem.resetDue = false ∧ s.lnk.resetAfter = none ∧
      s.power.trans = .none
    let noHeader := fun (i : ImgSession) (t : State) => MemoryInv s → s.mem.present = true → i.base + 64 ≤ s.mem.fitted →
      ∀ a, a < s.mem.fitted → t.mem.byte a = if i.base ≤ a ∧ a < i.base + 64 then 0xFF else s.mem.byte a
    (Serves s typeImageOpen f → ∃ t, exec (.imageOpen f) s = .next t ∧
      (s.img ≠ none → Answers typeImageOpen f typeNak [0x03, 0x20, 0, 0] s t ∧ OnlyAnswers s t) ∧
      (s.img = none → openOf p = none → Answers typeImageOpen f typeNak [0x05, 0x20, 0, 0] s t ∧ OnlyAnswers s t) ∧
      (∀ fw k n, s.img = none → openOf p = some (fw, k, n) → Answers typeImageOpen f typeAck [] s t ∧
        t.eva = s.arrivals [⟨0x080A, [BitVec.ofNat 32 (bankArg fw k 0), 0]⟩] ∧ SameMemory s t ∧
        (let e := MemReq.imageErase (if fw then fwBase k else confBase k) 0 true; t.mem.busy = some e ∨ e ∈ t.mem.queue) ∧
        t.img = some { firmware := fw, bank := k, length := n, next := 0, header := [], erasing := true, eraseFailed := false,
                       lastBlock := none })) ∧
    (∀ i, lone → s.img = some i → i.erasing = true → i.length ≤ 65536 → s.mem.busy = some (.imageErase i.base 0 true) →
      s.mem.usable = true →
      (let n := if s.mem.fram then 64 else 4096 * ((i.length + 4095) / 4096)
       0 < n → i.base + n ≤ s.mem.fitted →
       (if s.mem.fram then s.mem.opOk i.base 64 = true
        else ∀ k, k < (i.length + 4095) / 4096 → s.mem.opOk (i.base + 4096 * k) 4096 = true) →
       ∃ t, exec .imageEraseComplete s = .next t ∧ t.img = some { i with erasing := false } ∧
         (∀ a, a < s.mem.fitted → t.mem.byte a = if i.base ≤ a ∧ a < i.base + n then 0xFF else s.mem.byte a) ∧
         t = { s with mem := t.mem, img := t.img, power := t.power })) ∧
    (s.img = none → exec .imageEraseComplete s = .next s) ∧
    (∀ i, Serves s typeImageBlock f → s.img = some i → i.erasing = false → i.eraseFailed = false →
      let off := fieldN p 0 4; let d := p.drop 4
      ∃ t, exec (.imageBlock f) s = .next t ∧
        (i.lastBlock = some (off, d) → Answers typeImageBlock f typeAck (beN 4 i.next) s t ∧ OnlyAnswers s t) ∧
        (i.lastBlock ≠ some (off, d) → off ≠ i.next ∨ i.length < off + d.length →
          Answers typeImageBlock f typeNak [0x05, 0x21, 0, 0] s t ∧ OnlyAnswers s t) ∧
        (i.lastBlock ≠ some (off, d) → off = i.next → off + d.length ≤ i.length →
          (off + d.length ≤ 64 → Answers typeImageBlock f typeAck (beN 4 (off + d.length)) s t ∧
            OnlyAnswers { s with img := some { i with
              next := off + d.length, header := i.header ++ d, lastBlock := some (off, d) } } t) ∧
          (64 < off + d.length → t = { begins { s with
            phy := { s.phy with inverted := f.inverted },
            mem := s.mem.ask s.snap.regs (.imageBlock i.base off d f) } with power := t.power }))) ∧
    (∀ i, Serves s typeImageBlock f → s.img = some i → i.erasing = false → i.eraseFailed = true →
      ∃ t, exec (.imageBlock f) s = .next t ∧ Answers typeImageBlock f typeNak [0x07, 0x21, 0x0B, 0] s t ∧ t.img = none ∧
        t.eva = s.eva ∧ noHeader i t) ∧
    (∀ i off d, lone → s.img = some i → s.mem.busy = some (.imageBlock i.base off d f) → s.mem.usable = true →
      s.mem.opOk (i.base + off + (64 - off)) (d.length - (64 - off)) = true → i.base + off + d.length ≤ s.mem.fitted →
      f.dest ≠ addrBroadcast → ∃ t, exec .memoryOperationComplete s = .next t ∧
        Answers typeImageBlock f typeAck (beN 4 (off + d.length)) s t ∧
        t.img = some { i with next := off + d.length, header := i.header ++ d.take (64 - off), lastBlock := some (off, d) } ∧
        ∀ a, a < s.mem.fitted → t.mem.byte a =
          if i.base + max off 64 ≤ a ∧ a < i.base + off + d.length then d.getD (a - (i.base + off)) 0 else s.mem.byte a) ∧
    (∀ i, Serves s typeImageCommit f → s.img = some i → i.eraseFailed = false →
      ∃ t, exec (.imageCommit f) s = .next t ∧
        (i.next ≠ i.length → Answers typeImageCommit f typeNak [0x03, 0x22, 0, 0] s t ∧ OnlyAnswers s t) ∧
        (∀ r, i.next = i.length → s.checkCommit i = some r → Answers typeImageCommit f typeNak [0x07, 0x22, r, 0] s t ∧
          t.eva = s.arrivals [⟨0x080A, [BitVec.ofNat 32 (bankArg i.firmware i.bank 64), BitVec.ofNat 32 r.toNat]⟩] ∧
          t.img = none ∧ noHeader i t ∧ t.start = s.start) ∧
        (i.next = i.length → s.checkCommit i = none → t = { begins { s with
          phy := { s.phy with inverted := f.inverted },
          mem := s.mem.ask s.snap.regs (.imageHeader i.base i.header f) } with power := t.power })) ∧
    (∀ i h, lone → s.img = some i → s.mem.busy = some (.imageHeader i.base h f) → s.mem.usable = true → h.length = 64 →
      s.mem.opOk i.base 64 = true → i.base + 64 ≤ s.mem.fitted → f.dest ≠ addrBroadcast → s.start.phase ≠ .basalt →
      s.bkd.commits = [] → s.mem.density ≤ s.mem.fitted → s.log.next < s.mem.logSize →
      s.save.slot < 4 → s.save.first < 4 → s.save.second < 4 → s.save.pos < 32 →
      ∃ t, exec .memoryOperationComplete s = .next t ∧ t.start.phase = .inReset ∧
        t.hmc = { Hmc.reset with dogs := s.hmc.dogs, dogLog := s.hmc.dogLog, dog := t.hmc.dog } ∧ t.img = none ∧ t.bkd.ledger.altMask = 0 ∧ t.lnk.on = false ∧ SameRegisters s t ∧
        ∀ a, a < 64 → t.mem.byte (i.base + a) = h.getD a 0) ∧
    (Serves s typeImageAbort f → ∃ t, exec (.imageAbort f) s = .next t ∧
      (s.img = none → Answers typeImageAbort f typeNak [0x03, 0x23, 0, 0] s t ∧ OnlyAnswers s t) ∧
      (∀ i, s.img = some i → Answers typeImageAbort f typeAck [] s t ∧ t.img = none ∧ noHeader i t ∧
        (∀ r ∈ t.mem.queue, r.ofImage = false) ∧
        t.eva = s.arrivals [⟨0x080A, [BitVec.ofNat 32 (bankArg i.firmware i.bank 16), 0]⟩])) ∧
    (s.img = none → exec .imageSessionTimeout s = .next s) ∧
    (∀ i, s.img = some i → ∃ t, exec .imageSessionTimeout s = .next t ∧
      Logs [⟨0x080A, [BitVec.ofNat 32 (bankArg i.firmware i.bank 32), 0]⟩] { s with img := none, mem := s.mem.closeImage i } t ∧ noHeader i t) ∧
    (∀ (base k : Nat) (ok : Bool), lone → s.mem.busy = some (.imageErase base k false) →
      ∃ t, exec (if ok then .memoryOperationComplete else .memoryOperationTimeout) s = .next t ∧ t.img = s.img ∧ t.mem.busy = none ∧
        t.mem.queue = [] ∧ t.eva = s.eva ∧
        ∀ a, (a < base + 4096 * k ∨ base + 4096 * k + s.mem.imageUnit ≤ a) → t.mem.byte a = s.mem.byte a)

/-- CLAIM with the UID of an unclaimed device commits the claim record with its CRC-8 (the order of the bytes under it is DEDUCED, log entry 75), then programs the eight hash words and the lock; when every word reads as wanted and the lock has at least two ones the claim state is claimed, the record is cleared and event 0x080B is logged; a word that does not read as wanted stops it with NAK 0x04, the record kept and the state incomplete. An incomplete claim is continued so with the hash recorded. A claimed device, and an incomplete claim with another hash, answer NAK 0x06, whatever the UID (DEDUCED, log entry 20), and a wrong UID gets NAK 0x05, with no effect. LOG READ writes the queue first and answers the records from the log as it then stands; a count outside 1 to 14 gets NAK 0x05. (R144, R504, R514, R515, R516, R517, Table 17.7.) -/
def Obligations.ClaimProgramsTheOwner : Prop :=
  ∀ (s : State) (f : Frame), let p := f.payload
    (∀ (stuck : List Nat) (lock : BitVec 3), Serves s typeClaim f → s.bkd.commits = [] → s.fuse.words.length = 25 →
      let h := BitVec.ofNat 256 (fieldN p 0 32)
      let row := burnHash stuck s.fuse.words h
      let free : Prop := s.fuse.claim = .unclaimed ∨ (s.fuse.claim = .incomplete ∧ s.bkd.claimRec = some ⟨h, crc8 (be 32 h)⟩)
      ∃ t, exec (.claim f stuck lock) s = .next t ∧
        (s.fuse.claim = .claimed → Answers typeClaim f typeNak [0x06, 0x2C, 0, 0] s t ∧ OnlyAnswers s t) ∧
        (free → fieldN p 32 8 ≠ s.fuse.uid.toNat →
          Answers typeClaim f typeNak [0x05, 0x2C, 0, 0] s t ∧ OnlyAnswers s t) ∧
        (free → fieldN p 32 8 = s.fuse.uid.toNat →
          (row = hashWords h → 2 ≤ ones ((s.fuse.words.getD 24 0 ||| lock.setWidth 32).extractLsb' 0 3) →
            Answers typeClaim f typeAck [] s t ∧ t.fuse.claim = .claimed ∧ t.bkd.claimRec = none ∧
            t.fuse.words = s.fuse.words.take 16 ++ hashWords h ++ [s.fuse.words.getD 24 0 ||| lock.setWidth 32] ∧
            t.eva = s.arrivals [⟨0x080B, [24]⟩] ∧ SameMemory s t ∧ t.ee = s.ee) ∧
          (row = hashWords h → ones ((s.fuse.words.getD 24 0 ||| lock.setWidth 32).extractLsb' 0 3) < 2 →
            Answers typeClaim f typeNak [0x04, 0x2C, 0, 0] s t ∧ t.fuse.claim = .incomplete ∧
            t.bkd.claimRec = some ⟨h, crc8 (be 32 h)⟩ ∧ t.eva = s.arrivals [⟨0x080B, arg (2 ^ 24 + 24)⟩]) ∧
          (∀ k, firstBad 16 row (hashWords h) = some k →
            Answers typeClaim f typeNak [0x04, 0x2C, 0, 0] s t ∧ t.fuse.claim = .incomplete ∧
            t.bkd.claimRec = some ⟨h, crc8 (be 32 h)⟩ ∧
            t.fuse.words = s.fuse.words.take 16 ++ row ++ [s.fuse.words.getD 24 0] ∧ t.eva = s.arrivals [⟨0x080B, arg (2 ^ 24 + k)⟩])) ∧
        (s.fuse.claim = .incomplete → s.bkd.claimRec ≠ some ⟨h, crc8 (be 32 h)⟩ →
          Answers typeClaim f typeNak [0x06, 0x2C, 0, 0] s t ∧ OnlyAnswers s t)) ∧
    (Serves s typeLogRead f → s.mem.suspended = [] → ∃ t, exec (.logRead f) s = .next t ∧
      (1 ≤ fieldN p 4 1 → fieldN p 4 1 ≤ 14 →
        (let r := t.mem.logRead (fieldN p 0 4) (fieldN p 4 1)
         Answers typeLogRead f typeAck ([BitVec.ofNat 8 r.2.length, r.1] ++ r.2.flatten) s t) ∧
        SameRegisters s t ∧ t.bkd.time = s.bkd.time ∧ t.fuse = s.fuse ∧
        (s.eva.queue = [] → s.mem.busy = none → SameMemory s t)) ∧
      (fieldN p 4 1 = 0 ∨ 14 < fieldN p 4 1 → Answers typeLogRead f typeNak [0x05, 0x28, 0, 0] s t ∧ OnlyAnswers s t))

/-- A train request to 1023 with good checks arms a member with its turn address, mask and tag and latches the snapshot it then serves, without an answer; a unicast one is discarded. The turner sends its unit with hop 0 and the turned mark, a member that does not turn stays armed; a member behind at least one unit appends its own, in a notice window only when a flag in the mask has in the latched snapshot a generation not noticed yet, and then records the generations (DEDUCED, log entry 26); a parked one sends none. Each unit disarms the member and gives the line its direction. The disarm time-out drops the latched snapshot (what disarms: log entry 26). A SWEEP unit has 32 bytes, an identity unit 16 and a notice unit 8. (R28, R439, R464, R465, R467, R471, R473, R474, Table 16.5, Table 16.6a, Table 16.7.) -/
def Obligations.MemberTakesPartInTrains : Prop :=
  ∀ s : State, s.role = .member → s.hears = true →
    (∀ f : Frame, f.payload.length = 4 →
      let arm := fun (k : TrainKind) => ({ s with phy := { s.phy with inverted := f.inverted }, lnk := { s.lnk with
        armed := some { kind := k, turn := addressAt f.payload 0, mask := BitVec.ofNat 16 (fieldN f.payload 2 2),
                        tag := f.seq.setWidth 4 },
        latched := some s.snap, latchedS := s.now } } : State)
      (f.dest = addrBroadcast →
        (sound typeSweep f = true → exec (.sweep f) s = .next (arm .sweep)) ∧
        (sound typeEnumerate f = true → exec (.enumerate f) s = .next (arm .enumerate)) ∧
        (sound typeNotice f = true → exec (.noticeWindow f) s = .next (arm .notice))) ∧
      (f.dest ≠ addrBroadcast →
        (sound typeSweep f = true → ∃ t, exec (.sweep f) s = .next t ∧ Discards f s t) ∧
        (sound typeEnumerate f = true → ∃ t, exec (.enumerate f) s = .next t ∧ Discards f s t) ∧
        (sound typeNotice f = true → ∃ t, exec (.noticeWindow f) s = .next t ∧ Discards f s t))) ∧
    (∀ x : Train, s.lnk.armed = some x →
      let sent := fun (u : List Byte) => ({ s with
        phy := { s.phy with dir := some .lu },
        lnk := { s.lnk with armed := none, latched := none, sentLu := some (.trainUnit u) } } : State)
      let mine := s.power.parked = none ∧ (if x.turn = addrBroadcast then s.phy.tail = true else s.lnk.address = x.turn)
      (mine → x.kind ≠ .notice →
        exec .turnUnitSend s = .next (sent (s.unit x 0 true (x.turn != addrBroadcast)))) ∧
      (mine → x.kind = .notice → ∃ t, exec .turnUnitSend s = .next t ∧ t.lnk.armed = none ∧
        t.lnk.sentLu = some (.trainUnit (noticeUnit s x.mask))) ∧
      (¬ mine → exec .turnUnitSend s = .next s) ∧
      (∀ hop : BitVec 10, (hop = 0 ∨ s.power.parked ≠ none) → exec (.appendUnit hop) s = .next s) ∧
      (∀ hop : BitVec 10, hop ≠ 0 → s.power.parked = none →
        (x.kind ≠ .notice → exec (.appendUnit hop) s = .next (sent (s.unit x hop false false))) ∧
        (x.kind = .notice → s.noticeDue x.mask = false → exec (.appendUnit hop) s = .next s) ∧
        (x.kind = .notice → s.noticeDue x.mask = true → s.start.phase ≠ .basalt → s.lnk.address ≠ addrUnassigned →
          ∃ t, exec (.appendUnit hop) s = .next t ∧ t.lnk.armed = none ∧ t.lnk.sentLu = some (.trainUnit (noticeUnit s x.mask)) ∧
            (∀ k, k < 16 → x.mask.getLsbD k = true →
              t.lnk.notice.getD k none = some (s.trainSnap.flags.getD k ⟨false, 0, 0⟩).gen) ∧
            (∀ k, k < 16 → x.mask.getLsbD k = false → t.lnk.notice.getD k none = s.lnk.notice.getD k none)))) ∧
    (s.lnk.armed = none → exec .turnUnitSend s = .next s ∧ ∀ hop : BitVec 10, exec (.appendUnit hop) s = .next s) ∧
    exec .trainDisarmTimeout s = .next { s with lnk := { s.lnk with armed := none, latched := none } } ∧
    (∀ w : BitVec 32, (sweepRecord s w).length = 32 ∧ (identityUnit s w).length = 16 ∧ ∀ m, (noticeUnit s m).length = 8)

/-- FORWARDED_REQUEST of a head in operation with good checks goes on downstream with new ones and waits for its response; while another or a train is outstanding it gets NAK 0x04; one with bad checks goes nowhere. The response that belongs to it, for an ASSIGN from any source, goes upstream with the addresses and the sequence it carries, another one is dropped, and the time-out ends the wait without a retry (DEDUCED, log entry 25). A unit of a train whose CRC-16 is good goes upstream, a bad one does not, and is counted when its framing fails; the last one and the end of the train are followed by the own unit of the head, with the number of units carried as its hop (DEDUCED, log entry 26), and a train that fails by its own unit alone. (R436, R439, R455, R462, R463, R468, R470.) -/
def Obligations.WatalHeadBridges : Prop :=
  ∀ s : State, s.watalHead = true → s.hears = true → s.start.phase ≠ .basalt →
    (∀ (ty : BitVec 6) (f : Frame),
      (sound ty f = false ∨ forwards ty f.dest = false → ∃ t, exec (.forwardedRequest ty f) s = .next t ∧ Discards f s t) ∧
      (sound ty f = true → forwards ty f.dest = true → s.head.outstanding = false → exec (.forwardedRequest ty f) s = .next { s with
        phy := { s.phy with inverted := f.inverted, dir := some .ld },
        lnk := { s.lnk with sentLd := some (.frame f.dest f.src ty f.seq f.payload) },
        head := { s.head with req := some { dest := f.dest, type := ty, seq := f.seq, payload := f.payload, tries := 1,
                                            upstream := some f.src, woken := false, garbled := false } } }) ∧
      (sound ty f = true → forwards ty f.dest = true → s.head.outstanding = true → exec (.forwardedRequest ty f) s = .next { s with
        phy := { s.phy with inverted := f.inverted, dir := some .lu },
        lnk := { s.lnk with sentLu := some (.frame f.src s.lnk.address typeNak f.seq [0x04, ty.setWidth 8, 0, 0]) } })) ∧
    (∀ (r : HeadReq) (up : BitVec 10), s.head.req = some r → r.upstream = some up →
      exec .responseTimeout s = .next { s with head := { s.head with req := none } } ∧
      ∀ (nak : Bool) (f : Frame), let ty := if nak then typeNak else typeAck
        (sound ty f = true → f.seq = r.seq → f.dest = up → (f.src = r.dest ∨ r.type = typeAssign) →
          exec (.responseReceived nak f) s = .next { s with
            phy := { s.phy with inverted := f.inverted, dir := some .lu }, head := { s.head with req := none },
            lnk := { s.lnk with sentLu := some (.frame f.dest f.src ty f.seq f.payload) } }) ∧
        (sound ty f = false ∨ f.seq ≠ r.seq ∨ f.dest ≠ up → ∃ t, exec (.responseReceived nak f) s = .next t ∧ Discards f s t)) ∧
    (∀ (h : HeadTrain) (x : Train), s.head.train = some h → s.lnk.armed = some x → x.kind ≠ .notice →
      let done := fun (n : Nat) => ({ s with
        head := { s.head with train := none }, phy := { s.phy with dir := some .lu },
        lnk := { s.lnk with armed := none, latched := none,
                            sentLu := some (.trainUnit (s.unit x (BitVec.ofNat 10 n) false false)) } } : State)
      (∀ u : TrainUnit, unitGood u = true →
        exec (.headRelayUnit u false) s = .next { s with
          head := { s.head with train := some { h with units := h.units ++ [u.body] } }, phy := { s.phy with dir := some .lu },
          lnk := { s.lnk with sentLu := some (.trainUnit u.body) } } ∧
        exec (.headRelayUnit u true) s = .next (done (h.units.length + 1))) ∧
      (∀ u : TrainUnit, unitGood u = false → exec (.headRelayUnit u false) s = .next { s with
        phy := { s.phy with violations := s.phy.violations + (if u.framed then 0 else 1) } }) ∧
      (∀ us, exec (.trainEnd us) s = .next (done h.units.length)) ∧
      exec .trainTimeout s = .next (if h.units = [] then done 0 else s))

/-- Every 60 s the head sends SWEEP from address 0 under its next sequence number when nothing is outstanding. A request without response is sent again under the same number and, after the third time, logged as event 0x0807 and dropped; where an answer with bad checks came, a second member holds the address: it is logged as event 0x0806, closed to unicast frames, and an ENUMERATE goes out (DEDUCED, log entry 91). Before a request to a member that the head has parked, or whose own mode byte in a PING answer shows it parked, a PING goes, and the request itself leaves when the wait of the PING ends (R487; the mode byte and the end of the 70 ms at RESPONSE_TIMEOUT: DEDUCED, log entry 80). An ASSIGN that is acknowledged enters its UID and address in the member table as present. A good SWEEP updates every member: seen means present with nothing missed, a third absence means gone; the one record of an address gives its member the position (R472; failed units count: DEDUCED, log entry 27) and carries its registers on by their low parts (R356). A SWEEP that fails before its first unit is repeated exactly once, with the turner of the last good one named (DEDUCED, log entry 27). (R356, R439, R457, R460, R462, R468, R472, R475, R476, R477, R487.) -/
def Obligations.MbusHeadKeepsItsChain : Prop :=
  ∀ s : State, s.manages = true →
    let down : Phy := { s.phy with dir := some .ld }
    (s.head.todo = [] → s.head.outstanding = false → s.head.twice addrBroadcast = false → s.head.parkedAt addrBroadcast = false →
      exec .headSweepTimer s = .next { s with
        phy := down,
        head := { s.head with seq := s.head.seq + 1, train := some { kind := .sweep, units := [], retried := false } },
        lnk := { s.lnk with sentLd := some (.frame addrBroadcast addrHead typeSweep s.head.seq [0xFF, 0xC0, 0, 0]) } }) ∧
    (∀ (r : HeadReq) (rest : List HeadReq), s.head.todo = r :: rest → s.head.outstanding = false → s.head.maySend r = true →
      s.head.parkedAt r.dest = true → r.woken = false → ∃ t, exec .headSweepTimer s = .next t ∧
        t.lnk.sentLd = some (.frame r.dest addrHead typePing s.head.seq []) ∧ t.head.seq = s.head.seq + 1 ∧
        t.head.req = some { HeadReq.fresh r.dest typePing [] with seq := s.head.seq, tries := 1 } ∧
        t.head.todo.head? = some { r with woken := true } ∧ (∀ x ∈ t.head.todo, x.dest = r.dest → x.woken = true)) ∧
    (∀ (q r : HeadReq) (rest : List HeadReq), s.head.req = some q → q.upstream = none → q.type = typePing → s.head.train = none →
      s.head.todo = r :: rest → s.head.maySend r = true → r.woken = true → ∃ t, exec .responseTimeout s = .next t ∧
        t.lnk.sentLd = some (.frame r.dest addrHead r.type s.head.seq r.payload) ∧ t.head.todo = rest ∧ t.eva = s.eva ∧
        t.head.table = s.head.table) ∧
    (∀ r : HeadReq, s.head.req = some r → r.upstream = none → s.head.train = none → s.head.todo = [] →
      (r.onlyWakes = false → r.tries < 3 → exec .responseTimeout s = .next { s with
        phy := down,
        head := { s.head with req := some { r with tries := r.tries + 1 } },
        lnk := { s.lnk with sentLd := some (.frame r.dest addrHead r.type r.seq r.payload) } }) ∧
      (r.onlyWakes = false → 3 ≤ r.tries → r.type ≠ typeRead → (r.garbled = false ∨ memberAddress r.dest = false) →
        ∃ t, exec .responseTimeout s = .next t ∧
        Logs [⟨0x0807, arg (r.dest.toNat * 65536 + r.type.toNat)⟩] { s with head := { s.head with req := none } } t) ∧
      (r.onlyWakes = false → 3 ≤ r.tries → r.garbled = true → memberAddress r.dest = true → ∃ t, exec .responseTimeout s = .next t ∧
        t.eva = s.arrivals [⟨0x0807, arg (r.dest.toNat * 65536 + r.type.toNat)⟩, ⟨0x0806, arg r.dest.toNat⟩] ∧
        t.head.table = s.head.table ∧ t.head.twice r.dest = true ∧
        (s.head.parkedAt addrBroadcast = false → s.head.twice addrBroadcast = false → t.head.req = none ∧
          t.lnk.sentLd = some (.frame addrBroadcast addrHead typeEnumerate s.head.seq [0xFF, 0xC0, 0, 0]))) ∧
      (∀ (nak : Bool) (f : Frame), sound (if nak then typeNak else typeAck) f = false →
        exec (.responseReceived nak f) s = .next { s with
          phy := { s.phy with inverted := f.inverted }, head := { s.head with req := some { r with garbled := true } } }) ∧
      (∀ f : Frame, r.type = typeAssign → sound typeAck f = true → f.seq = r.seq → f.dest = addrHead → s.head.table.length < 1000 →
        let uid := BitVec.ofNat 64 (fieldN r.payload 0 8)
        let old := s.head.table.find? (fun m => m.uid == uid)
        ∃ t, exec (.responseReceived false f) s = .next t ∧ t.head.req = none ∧
          (∃ m ∈ t.head.table, m.uid = uid ∧ m.address = addressAt r.payload 8 ∧ m.present = true ∧ m.missed = 0 ∧
            m.parked = (old.map Member.parked).getD false ∧ m.asleep = (old.map Member.asleep).getD false ∧ m.position = (old.map Member.position).getD 0 ∧
            m.regs = old.bind Member.regs) ∧
          (∀ m ∈ s.head.table, m.uid ≠ uid → m.address ≠ addressAt r.payload 8 → m ∈ t.head.table)) ∧
      (∀ f : Frame, r.type = typePing → sound typeAck f = true → r.answeredBy f = true →
        exec (.responseReceived false f) s = .next { s with
          phy := { s.phy with inverted := f.inverted },
          head := { s.head with req := none, table := s.head.table.map (fun m =>
            if m.address = r.dest then { m with asleep := (f.payload.getD 1 0).getLsbD 3 } else m) } })) ∧
    (s.head.todo = [] → ∀ (h : HeadTrain) (us : List TrainUnit), s.head.train = some h → h.kind = .sweep →
      ∃ t, exec (.trainEnd us) s = .next t ∧
      let records := ((us.filter unitGood).map TrainUnit.body).filter (fun b => unitKind b != 1)
      let seen := records.map unitAddress
      t.head.table = (s.head.table.map (fun m => m.recorded us.length records)).map (fun m =>
        if m.address ∈ seen then { m with present := true, missed := 0 }
        else if m.present && !m.parked then { m with missed := m.missed + 1, present := decide (m.missed + 1 < 3) } else m) ∧
      t.head.seen = seen ∧
      (∀ m ∈ s.head.table, ∀ b, records.filter (fun x => unitAddress x == m.address) = [b] → ∃ m' ∈ t.head.table,
        m'.uid = m.uid ∧ m'.address = m.address ∧ m'.position = 1 + us.length - 1 - fieldN b 0 4 / 2 ^ 12 % 2 ^ 10 ∧
        (unitKind b ≠ 0 → m'.regs = m.regs) ∧
        (unitKind b = 0 → ∀ r, m.regs = some r → ∃ r', m'.regs = some r' ∧
          r'.volume.full = r.volume.full + (BitVec.ofNat 24 (fieldN b 0x0A 3) - r.volume.prev).toInt ∧
          r'.heat.full = r.heat.full + (BitVec.ofNat 24 (fieldN b 0x0D 3) - r.heat.prev).toInt ∧
          r'.cold.full = r.cold.full + (BitVec.ofNat 24 (fieldN b 0x10 3) - r.cold.prev).toInt)) ∧
      t.head.selected = s.head.selected ∧ t.ee = s.ee ∧ t.bkd = s.bkd) ∧
    (s.head.todo = [] → ∀ (h : HeadTrain) (a : BitVec 10), s.head.train = some h → h.kind = .sweep → h.units = [] →
      (h.retried = false → s.head.firstSweep = some a → exec .trainTimeout s = .next { s with
        phy := down,
        head := { s.head with seq := s.head.seq + 1, train := some { h with retried := true } },
        lnk := { s.lnk with sentLd := some (.frame addrBroadcast addrHead typeSweep s.head.seq (turnPayload a)) } }) ∧
      (h.retried = true ∨ s.head.firstSweep = none →
        exec .trainTimeout s = .next { s with head := { s.head with train := none } }))

/-- SND_NKE deselects and is answered at 253 only. SND_UD with the secondary address of the head selects it; with that of a present member it selects the lowest address that matches, asks for its four parts, with a PING first when the head knows that member as parked, and logs event 0x0808 when more than one matches; with another it selects nothing. The reads are complete with all four parts and have failed otherwise. REQ_UD2 with the FCB of the last answer sends the stored telegram again; with the other it sends a new one and counts the access number; with nothing selected it sends nothing. The telegram framing is that of log entry 13. (R439, R487, R488, R489, R490, Table 16.19.) -/
def Obligations.MbusSelectsAndAnswers : Prop :=
  ∀ s : State, s.manages = true →
    let up : Phy := { s.phy with dir := some .lu }
    (∃ t, exec (.sndNke 253) s = .next t ∧ t.head.selected = .none ∧ t.head.fcb = none ∧ t.lnk.sentLu = some (.mbus [0xE5]) ∧
      t.head.table = s.head.table ∧ t = { s with head := t.head, lnk := t.lnk, phy := up }) ∧
    (∃ t, exec (.sndNke 255) s = .next t ∧ t.head.selected = .none ∧ t.lnk = s.lnk) ∧
    (∀ b : Byte, b ≠ 253 → b ≠ 255 → exec (.sndNke b) s = .next s) ∧
    (∀ a : List Byte, let own := secondaryOf s.conf (ownNumber s.conf)
      (a = own → ∃ t, exec (.sndUd 253 0x52 a) s = .next t ∧ t.head.selected = .self ∧ t.lnk.sentLu = some (.mbus [0xE5])) ∧
      (a ≠ own → s.matching a = [] → ∃ t, exec (.sndUd 253 0x52 a) s = .next t ∧ t.head.selected = .none ∧ t.lnk = s.lnk) ∧
      (a ≠ own → s.matching a ≠ [] → ∃ t m, exec (.sndUd 253 0x52 a) s = .next t ∧ m ∈ s.matching a ∧
        t.head.selected = .member m.address ∧ (∀ n ∈ s.matching a, m.address.toNat ≤ n.address.toNat) ∧
        t.head.reads = .pending [] ∧ t.lnk.sentLu = some (.mbus [0xE5]) ∧
        (s.head.todo = [] → s.head.outstanding = false → s.head.twice m.address = false →
          t.lnk.sentLd = some (if s.head.parkedAt m.address then .frame m.address addrHead typePing s.head.seq []
            else .frame m.address addrHead typeRead s.head.seq [0, 0, 24, 0])) ∧
        t.eva = s.arrivals (if 1 < (s.matching a).length then [⟨0x0808, arg m.address.toNat⟩] else []))) ∧
    (∀ (b ci : Byte) (a : List Byte), b ≠ 253 ∨ ci ≠ 0x52 → exec (.sndUd b ci a) s = .next s) ∧
    (s.head.selected = .none → ∀ b : Bool, exec (.reqUd2 253 b) s = .next s) ∧
    (s.head.selected ≠ .none → ∀ b : Bool,
      (s.head.fcb = some b → exec (.reqUd2 253 b) s = .next { s with
        phy := up,
        lnk := { s.lnk with sentLu := some (.mbus s.head.lastRsp) } }) ∧
      (s.head.fcb ≠ some b → newRsp s = none → exec (.reqUd2 253 b) s = .next s) ∧
      (s.head.fcb ≠ some b → ∀ r, newRsp s = some r → exec (.reqUd2 253 b) s = .next { s with
        free := s.free + 1, phy := up, lnk := { s.lnk with sentLu := some (.mbus r) },
        head := { s.head with fcb := some b, lastRsp := r, accessNo := s.head.accessNo + 1 } })) ∧
    (∀ got a b c d, s.head.reads = .pending got →
      (got.find? (fun x => x.1 == 0) = some (0, a) → got.find? (fun x => x.1 == 5) = some (5, b) →
        got.find? (fun x => x.1 == 7) = some (7, c) → got.find? (fun x => x.1 == 8) = some (8, d) →
        exec .mbusMemberReadComplete s = .next { s with head := { s.head with reads := .done a b c d } }) ∧
      (got.find? (fun x => x.1 == 8) = none → ∃ t, exec .mbusMemberReadComplete s = .next t ∧ t.head.reads = .failed)) ∧
    ((∀ got, s.head.reads ≠ .pending got) → exec .mbusMemberReadComplete s = .next s)

/-- For every state with the lasting invariant (memory cells in canonical form, at most 64 records in the event queue and 16 events held by a start, 25 fuse words) and whatever command is at the front of the queue, the next state has it too, and no bit of the fuse array that was 1 is 0. (R143, R144, R156, R501, 04_configuration_image.md.) -/
def Obligations.EveryStepKeepsTheInvariant : Prop :=
  ∀ s t : State, Inv s → step s = .next t → Inv t ∧ FusesGrow s t

/-- State.reset has the lasting invariant, an empty command queue (log entry 2), a memory that lists nothing and no MEMC request and no commit waiting (the choices of the model in log entries 1 and 3). (R143, R156, R501.) -/
def Obligations.InvariantHoldsAtReset : Prop :=
  Inv State.reset ∧ State.reset.pending = [] ∧ State.reset.mem.cells = [] ∧ State.reset.mem.queue = [] ∧
  State.reset.mem.busy = none ∧ State.reset.mem.suspended = [] ∧ State.reset.bkd.commits = []

end
end

