-- ==== Sys2Proof/Laws/Memory.lean ====
section
/-!
SUPPORT. The laws of the external memory: the canonical form and the operations that keep it, reads after writes, and the one-pass
range read against the byte-by-byte one.
-/
namespace Sys2Proof.Machine

/-! ## The canonical form, one cell at a time -/

/-- The first address of a list of cells lies above `k`. -/
def headAbove (k : Nat) : List Host.Cell → Prop
  | [] => True
  | c :: _ => k < c.1

theorem cellsWf_cons (k : Nat) (b : Byte) (rest : List Host.Cell) :
    cellsWf ((k, b) :: rest) = true ↔ b ≠ unlisted ∧ headAbove k rest ∧ cellsWf rest = true := by
  cases rest with
  | nil => simp [cellsWf, headAbove]
  | cons c cs => obtain ⟨k', b'⟩ := c; simp [cellsWf, headAbove, and_assoc]

theorem cellsWf_tail {c : Host.Cell} {rest : List Host.Cell} (h : cellsWf (c :: rest) = true) : cellsWf rest = true :=
  ((cellsWf_cons c.1 c.2 rest).1 h).2.2

theorem headAbove_mono {j k : Nat} {cs : List Host.Cell} (h : headAbove k cs) (hjk : j ≤ k) : headAbove j cs := by
  cases cs with
  | nil => trivial
  | cons c cs => exact Nat.lt_of_le_of_lt hjk h

theorem headAbove_write {k a : Nat} {v : Byte} {cs : List Host.Cell} (h : headAbove k cs) (hw : cellsWf cs = true) (hka : k < a) :
    headAbove k (cellWrite cs a v) := by
  cases cs with
  | nil => unfold cellWrite; split <;> simp [headAbove, hka]
  | cons c cs =>
    obtain ⟨j, b⟩ := c
    have hkj : k < j := h
    unfold cellWrite
    split
    · split
      · exact hkj
      · exact hka
    · split
      · split
        · obtain ⟨_, ha, _⟩ := (cellsWf_cons j b cs).1 hw
          exact headAbove_mono ha (Nat.le_of_lt hkj)
        · exact hka
      · exact hkj

/-- One byte stored keeps the canonical form. -/
theorem cellWrite_wf (cs : List Host.Cell) (a : Nat) (v : Byte) (h : cellsWf cs = true) : cellsWf (cellWrite cs a v) = true := by
  induction cs with
  | nil => unfold cellWrite; split <;> simp_all [cellsWf]
  | cons c cs ih =>
    obtain ⟨k, b⟩ := c
    obtain ⟨hb, ha, hcs⟩ := (cellsWf_cons k b cs).1 h
    unfold cellWrite
    split
    · rename_i hlt
      split
      · exact h
      · rename_i hv
        exact (cellsWf_cons a v _).2 ⟨hv, hlt, h⟩
    · split
      · rename_i heq
        split
        · exact hcs
        · rename_i hv
          exact (cellsWf_cons a v _).2 ⟨hv, heq ▸ ha, hcs⟩
      · exact (cellsWf_cons k b _).2 ⟨hb, headAbove_write ha hcs (by omega), ih hcs⟩

theorem cellRead_below {a : Nat} {cs : List Host.Cell} (h : headAbove a cs) (hw : cellsWf cs = true) : cellRead cs a = unlisted := by
  induction cs with
  | nil => rfl
  | cons c cs ih =>
    obtain ⟨k, b⟩ := c
    obtain ⟨_, ha, hcs⟩ := (cellsWf_cons k b cs).1 hw
    have hak : a < k := h
    unfold cellRead
    rw [if_neg (by omega)]
    exact ih (headAbove_mono ha (Nat.le_of_lt hak)) hcs

/-- A read after a write to the same address gives the byte written. -/
theorem cellRead_write_same (cs : List Host.Cell) (a : Nat) (v : Byte) (h : cellsWf cs = true) :
    cellRead (cellWrite cs a v) a = v := by
  induction cs with
  | nil => unfold cellWrite; split <;> simp_all [cellRead]
  | cons c cs ih =>
    obtain ⟨k, b⟩ := c
    obtain ⟨_, ha, hcs⟩ := (cellsWf_cons k b cs).1 h
    unfold cellWrite
    split
    · rename_i hlt
      split
      · rename_i hv
        rw [hv]
        exact cellRead_below (a := a) (cs := (k, b) :: cs) hlt h
      · simp [cellRead]
    · split
      · rename_i heq
        split
        · rename_i hv
          rw [hv, heq]
          exact cellRead_below ha hcs
        · simp [cellRead]
      · rename_i hne
        unfold cellRead
        rw [if_neg hne]
        exact ih hcs

/-- A write leaves every other address as it was. -/
theorem cellRead_write_other (cs : List Host.Cell) (a x : Nat) (v : Byte) (hx : x ≠ a) :
    cellRead (cellWrite cs a v) x = cellRead cs x := by
  induction cs with
  | nil => unfold cellWrite; split <;> simp [cellRead, hx]
  | cons c cs ih =>
    obtain ⟨k, b⟩ := c
    unfold cellWrite
    split
    · split
      · rfl
      · conv => lhs; unfold cellRead
        rw [if_neg hx]
    · split
      · rename_i heq
        split
        · conv => rhs; unfold cellRead
          rw [if_neg (heq ▸ hx)]
        · conv => lhs; unfold cellRead
          conv => rhs; unfold cellRead
          rw [if_neg hx, if_neg (heq ▸ hx)]
      · unfold cellRead
        rw [ih]

/-- Bytes stored upward keep the canonical form. -/
theorem cellsWrite_wf (cs : List Host.Cell) (a : Nat) (vs : List Byte) (h : cellsWf cs = true) :
    cellsWf (cellsWrite cs a vs) = true := by
  induction vs generalizing cs a with
  | nil => exact h
  | cons v vs ih => exact ih _ _ (cellWrite_wf cs a v h)

/-! ## One byte of the part -/

@[simp] theorem put_present (m : Mem) (a : Nat) (v : Byte) : (m.put a v).present = m.present := by unfold Mem.put; split <;> rfl
@[simp] theorem put_fitted (m : Mem) (a : Nat) (v : Byte) : (m.put a v).fitted = m.fitted := by unfold Mem.put; split <;> rfl
@[simp] theorem put_cellOf (m : Mem) (a x : Nat) (v : Byte) : (m.put a v).cellOf x = m.cellOf x := by simp [Mem.cellOf]

/-- Programming changes the cells and nothing else. -/
theorem put_eq (m : Mem) (a : Nat) (v : Byte) : m.put a v = { m with cells := (m.put a v).cells } := by
  unfold Mem.put; split <;> rfl

theorem put_wf (m : Mem) (a : Nat) (v : Byte) (h : m.wf = true) : (m.put a v).wf = true := by
  unfold Mem.put
  split
  · exact cellWrite_wf m.cells (m.cellOf a) v h
  · exact h

theorem byte_put_same (m : Mem) (a : Nat) (v : Byte) (hp : m.present = true) (h : m.wf = true) : (m.put a v).byte a = v := by
  unfold Mem.byte
  rw [put_present, if_pos hp, put_cellOf]
  unfold Mem.put
  rw [if_pos hp]
  exact cellRead_write_same m.cells (m.cellOf a) v h

theorem byte_put_other (m : Mem) (a x : Nat) (v : Byte) (hx : m.cellOf x ≠ m.cellOf a) : (m.put a v).byte x = m.byte x := by
  unfold Mem.byte
  rw [put_present, put_cellOf]
  split
  · unfold Mem.put
    rename_i hp
    rw [if_pos hp]
    exact cellRead_write_other m.cells (m.cellOf a) (m.cellOf x) v hx
  · rfl

theorem cellOf_fitted (m : Mem) (a : Nat) (h : a < m.fitted) : m.cellOf a = a := by simp [Mem.cellOf, h]

/-! ## Ranges of the part -/

theorem program_eq (vs : List Byte) : ∀ (m : Mem) (a : Nat), m.program a vs = { m with cells := (m.program a vs).cells } := by
  induction vs with
  | nil => intro m a; rfl
  | cons v vs ih =>
    intro m a
    show (m.put a v).program (a + 1) vs = { m with cells := ((m.put a v).program (a + 1) vs).cells }
    rw [put_eq m a v]
    exact ih _ _

@[simp] theorem program_present (m : Mem) (a : Nat) (vs : List Byte) : (m.program a vs).present = m.present := by rw [program_eq]
@[simp] theorem program_fitted (m : Mem) (a : Nat) (vs : List Byte) : (m.program a vs).fitted = m.fitted := by rw [program_eq]

theorem program_wf (vs : List Byte) : ∀ (m : Mem) (a : Nat), m.wf = true → (m.program a vs).wf = true := by
  induction vs with
  | nil => intro m a h; exact h
  | cons v vs ih => intro m a h; exact ih _ _ (put_wf m a v h)

/-- Within the fitted part a program leaves every byte outside its range as it was. -/
theorem byte_program_other (vs : List Byte) : ∀ (m : Mem) (a x : Nat), a + vs.length ≤ m.fitted → x < m.fitted →
    (x < a ∨ a + vs.length ≤ x) → (m.program a vs).byte x = m.byte x := by
  induction vs with
  | nil => intro m a x _ _ _; rfl
  | cons v vs ih =>
    intro m a x hf hx hr
    simp only [List.length_cons] at hf hr
    show ((m.put a v).program (a + 1) vs).byte x = m.byte x
    rw [ih (m.put a v) (a + 1) x (by simp; omega) (by simpa using hx) (by omega)]
    exact byte_put_other m a x v (by rw [cellOf_fitted m x hx, cellOf_fitted m a (by omega)]; omega)

/-- Within the fitted part a program leaves the bytes it stores. -/
theorem byte_program_same (vs : List Byte) : ∀ (m : Mem) (a i : Nat), m.present = true → m.wf = true →
    a + vs.length ≤ m.fitted → (hi : i < vs.length) → (m.program a vs).byte (a + i) = vs[i] := by
  induction vs with
  | nil => intro m a i _ _ _ hi; exact absurd hi (by simp)
  | cons v vs ih =>
    intro m a i hp hw hf hi
    simp only [List.length_cons] at hf hi
    show ((m.put a v).program (a + 1) vs).byte (a + i) = _
    cases i with
    | zero =>
      rw [byte_program_other vs (m.put a v) (a + 1) (a + 0) (by simp; omega) (by simp; omega) (by omega)]
      exact byte_put_same m a v hp hw
    | succ i =>
      have := ih (m.put a v) (a + 1) i (by simpa using hp) (put_wf m a v hw) (by simp; omega) (by omega)
      rw [show a + 1 + i = a + (i + 1) by omega] at this
      simpa using this

theorem wf_ite (b : Bool) (x y : Mem) (hx : x.wf = true) (hy : y.wf = true) : (if b then x else y).wf = true := by
  cases b
  · exact hy
  · exact hx

theorem eraseRange_wf (m : Mem) (a n : Nat) (h : m.wf = true) : (m.eraseRange a n).wf = true := program_wf _ m a h

theorem dropHeader_wf (m : Mem) (i : ImgSession) (h : m.wf = true) : (m.dropHeader i).wf = true := eraseRange_wf m _ 64 h

theorem closeImage_wf (m : Mem) (i : ImgSession) (h : m.wf = true) : (m.closeImage i).wf = true := by
  have hw := dropHeader_wf m i h
  unfold Mem.closeImage
  generalize m.dropHeader i = x at hw ⊢
  exact hw

theorem eraseNor_wf (m : Mem) (a n : Nat) (h : m.wf = true) : (m.eraseNor a n).wf = true := by
  unfold Mem.eraseNor; split
  · exact h
  · exact eraseRange_wf m a n h

/-! ## The log and the save area -/

theorem writeRecord_wf (b : List Byte) : ∀ (n : Nat) (x : Mem × LogRing) (bad : List Nat),
    x.1.wf = true → (writeRecord b n x bad).1.1.wf = true := by
  intro n
  induction n with
  | zero => intro x bad h; exact h
  | succ n ih =>
    intro x bad h
    obtain ⟨m, g⟩ := x
    have he := wf_ite (m.logErases g) (m.eraseRange (sectorBase g.next) 4096) m (eraseRange_wf m _ _ h) h
    unfold writeRecord
    extract_lets erases e m' a
    split
    · exact ih (m, g.skip m.logSize true) _ h
    · split
      · exact program_wf _ m' a he
      · exact ih (m', g.skip m'.logSize false) _ he

theorem writeRecords_wf (n : Nat) (rs : List Record) : ∀ (x : Mem × LogRing) (bad : List Nat),
    x.1.wf = true → (writeRecords n rs x bad).1.1.wf = true := by
  induction rs with
  | nil => intro x bad h; exact h
  | cons r rs ih => intro x bad h; exact ih _ _ (writeRecord_wf _ _ _ _ h)

/-! ## Reads of a range -/

theorem bytesSlow_length (m : Mem) : ∀ (n a : Nat), (m.bytesSlow a n).length = n := by
  intro n
  induction n with
  | zero => intro a; rfl
  | succ n ih => intro a; simp [Mem.bytesSlow, ih]

/-- Cells none of which lies in a range read as unlisted bytes there. -/
theorem cellRead_headAbove_range {cs : List Host.Cell} {k a : Nat} (h : headAbove k cs) (hw : cellsWf cs = true) (ha : a ≤ k) :
    cellRead cs a = unlisted := cellRead_below (headAbove_mono h ha) hw

theorem cellRead_cons_ne {k x : Nat} (b : Byte) (cs : List Host.Cell) (h : x ≠ k) :
    cellRead ((k, b) :: cs) x = cellRead cs x := by simp [cellRead, h]

/-- The one-pass read of a range is the reads of its addresses one by one. -/
theorem cellsRange_eq (cs : List Host.Cell) (hw : cellsWf cs = true) : ∀ (n a : Nat),
    cellsRange cs a n = (List.range n).map (fun i => cellRead cs (a + i)) := by
  induction cs with
  | nil =>
    intro n a
    simp [cellsRange, cellRead, List.map_const']
  | cons c cs ih =>
    obtain ⟨k, b⟩ := c
    obtain ⟨_, hk, hcs⟩ := (cellsWf_cons k b cs).1 hw
    intro n a
    unfold cellsRange
    split
    · rename_i hka
      rw [ih hcs]
      apply List.map_congr_left
      intro i _
      rw [cellRead_cons_ne _ _ (by omega)]
    · split
      · rename_i hka hkn
        rw [ih hcs]
        apply List.ext_getElem
        · simp; omega
        · intro i h1 h2
          have hi : i < n := by simpa using h2
          rw [List.getElem_map, List.getElem_range]
          by_cases hik : a + i < k
          · rw [List.getElem_append_left (by simp; omega), List.getElem_replicate, cellRead_cons_ne _ _ (by omega),
              cellRead_headAbove_range hk hcs (Nat.le_of_lt hik)]
          · rw [List.getElem_append_right (by simp; omega)]
            by_cases he : a + i = k
            · have h0 : i - (List.replicate (k - a) unlisted).length = 0 := by simp; omega
              simp only [h0, List.getElem_cons_zero]
              simp [cellRead, he]
            · obtain ⟨j, hj⟩ : ∃ j, i - (List.replicate (k - a) unlisted).length = j + 1 :=
                ⟨i - (k - a) - 1, by simp; omega⟩
              simp only [hj, List.getElem_cons_succ, List.getElem_map, List.getElem_range]
              rw [cellRead_cons_ne _ _ he]
              congr 1
              simp at hj
              omega
      · rename_i hka hkn
        apply List.ext_getElem
        · simp
        · intro i h1 h2
          have hi : i < n := by simpa using h2
          rw [List.getElem_map, List.getElem_range, List.getElem_replicate, cellRead_cons_ne _ _ (by omega),
            cellRead_headAbove_range hk hcs (by omega)]

theorem bytesSlow_eq (m : Mem) : ∀ (n a : Nat), m.bytesSlow a n = (List.range n).map (fun i => m.byte (a + i)) := by
  intro n
  induction n with
  | zero => intro a; rfl
  | succ n ih =>
    intro a
    rw [Mem.bytesSlow, ih, List.range_succ_eq_map]
    simp only [List.map_cons, List.map_map, Nat.add_zero]
    congr 1
    apply List.map_congr_left
    intro i _
    simp only [Function.comp_apply]
    congr 1
    omega

/-- A range is read as its bytes one by one. -/
theorem bytes_eq (m : Mem) (a n : Nat) (hw : m.wf = true) : m.bytes a n = (List.range n).map (fun i => m.byte (a + i)) := by
  unfold Mem.bytes
  split
  · rename_i h
    simp only [Bool.and_eq_true, decide_eq_true_eq] at h
    rw [cellsRange_eq m.cells hw]
    apply List.map_congr_left
    intro i hi
    have : a + i < m.fitted := by have := List.mem_range.1 hi; omega
    simp [Mem.byte, h.1, cellOf_fitted m _ this]
  · exact bytesSlow_eq m n a

end Sys2Proof.Machine
end

