-- ==== Sys2Proof/Laws/State.lean ====
section
/-!
SUPPORT. The fields of State after each small update: what the update leaves as it was.
-/
namespace Sys2Proof.Machine

/-! ## State.spend -/

@[simp] theorem spend_bkd (s : State) : s.spend.bkd = s.bkd := rfl
@[simp] theorem spend_fuse (s : State) : s.spend.fuse = s.fuse := rfl
@[simp] theorem spend_straps (s : State) : s.spend.straps = s.straps := rfl
@[simp] theorem spend_conf (s : State) : s.spend.conf = s.conf := rfl
@[simp] theorem spend_banks (s : State) : s.spend.banks = s.banks := rfl
@[simp] theorem spend_mem (s : State) : s.spend.mem = s.mem := rfl
@[simp] theorem spend_save (s : State) : s.spend.save = s.save := rfl
@[simp] theorem spend_log (s : State) : s.spend.log = s.log := rfl
@[simp] theorem spend_eva (s : State) : s.spend.eva = s.eva := rfl
@[simp] theorem spend_flags (s : State) : s.spend.flags = s.flags := rfl
@[simp] theorem spend_clk (s : State) : s.spend.clk = s.clk := rfl
@[simp] theorem spend_start (s : State) : s.spend.start = s.start := rfl
@[simp] theorem spend_prq (s : State) : s.spend.prq = s.prq := rfl
@[simp] theorem spend_power (s : State) : s.spend.power = s.power := rfl
@[simp] theorem spend_afe (s : State) : s.spend.afe = s.afe := rfl
@[simp] theorem spend_tiu (s : State) : s.spend.tiu = s.tiu := rfl
@[simp] theorem spend_seq (s : State) : s.spend.seq = s.seq := rfl
@[simp] theorem spend_fe (s : State) : s.spend.fe = s.fe := rfl
@[simp] theorem spend_ag (s : State) : s.spend.ag = s.ag := rfl
@[simp] theorem spend_temp (s : State) : s.spend.temp = s.temp := rfl
@[simp] theorem spend_ee (s : State) : s.spend.ee = s.ee := rfl
@[simp] theorem spend_hmc (s : State) : s.spend.hmc = s.hmc := rfl
@[simp] theorem spend_img (s : State) : s.spend.img = s.img := rfl
@[simp] theorem spend_snap (s : State) : s.spend.snap = s.snap := rfl
@[simp] theorem spend_lnk (s : State) : s.spend.lnk = s.lnk := rfl
@[simp] theorem spend_phy (s : State) : s.spend.phy = s.phy := rfl
@[simp] theorem spend_head (s : State) : s.spend.head = s.head := rfl
@[simp] theorem spend_pending (s : State) : s.spend.pending = s.pending := rfl

/-! ## voteFor -/

@[simp] theorem voteFor_bkd (c : Client) (v : BitVec 2) (s : State) : (voteFor c v s).bkd = s.bkd := rfl
@[simp] theorem voteFor_fuse (c : Client) (v : BitVec 2) (s : State) : (voteFor c v s).fuse = s.fuse := rfl
@[simp] theorem voteFor_straps (c : Client) (v : BitVec 2) (s : State) : (voteFor c v s).straps = s.straps := rfl
@[simp] theorem voteFor_conf (c : Client) (v : BitVec 2) (s : State) : (voteFor c v s).conf = s.conf := rfl
@[simp] theorem voteFor_banks (c : Client) (v : BitVec 2) (s : State) : (voteFor c v s).banks = s.banks := rfl
@[simp] theorem voteFor_mem (c : Client) (v : BitVec 2) (s : State) : (voteFor c v s).mem = s.mem := rfl
@[simp] theorem voteFor_save (c : Client) (v : BitVec 2) (s : State) : (voteFor c v s).save = s.save := rfl
@[simp] theorem voteFor_log (c : Client) (v : BitVec 2) (s : State) : (voteFor c v s).log = s.log := rfl
@[simp] theorem voteFor_eva (c : Client) (v : BitVec 2) (s : State) : (voteFor c v s).eva = s.eva := rfl
@[simp] theorem voteFor_flags (c : Client) (v : BitVec 2) (s : State) : (voteFor c v s).flags = s.flags := rfl
@[simp] theorem voteFor_clk (c : Client) (v : BitVec 2) (s : State) : (voteFor c v s).clk = s.clk := rfl
@[simp] theorem voteFor_start (c : Client) (v : BitVec 2) (s : State) : (voteFor c v s).start = s.start := rfl
@[simp] theorem voteFor_prq (c : Client) (v : BitVec 2) (s : State) : (voteFor c v s).prq = s.prq := rfl
@[simp] theorem voteFor_afe (c : Client) (v : BitVec 2) (s : State) : (voteFor c v s).afe = s.afe := rfl
@[simp] theorem voteFor_tiu (c : Client) (v : BitVec 2) (s : State) : (voteFor c v s).tiu = s.tiu := rfl
@[simp] theorem voteFor_seq (c : Client) (v : BitVec 2) (s : State) : (voteFor c v s).seq = s.seq := rfl
@[simp] theorem voteFor_fe (c : Client) (v : BitVec 2) (s : State) : (voteFor c v s).fe = s.fe := rfl
@[simp] theorem voteFor_ag (c : Client) (v : BitVec 2) (s : State) : (voteFor c v s).ag = s.ag := rfl
@[simp] theorem voteFor_temp (c : Client) (v : BitVec 2) (s : State) : (voteFor c v s).temp = s.temp := rfl
@[simp] theorem voteFor_ee (c : Client) (v : BitVec 2) (s : State) : (voteFor c v s).ee = s.ee := rfl
@[simp] theorem voteFor_hmc (c : Client) (v : BitVec 2) (s : State) : (voteFor c v s).hmc = s.hmc := rfl
@[simp] theorem voteFor_img (c : Client) (v : BitVec 2) (s : State) : (voteFor c v s).img = s.img := rfl
@[simp] theorem voteFor_snap (c : Client) (v : BitVec 2) (s : State) : (voteFor c v s).snap = s.snap := rfl
@[simp] theorem voteFor_lnk (c : Client) (v : BitVec 2) (s : State) : (voteFor c v s).lnk = s.lnk := rfl
@[simp] theorem voteFor_phy (c : Client) (v : BitVec 2) (s : State) : (voteFor c v s).phy = s.phy := rfl
@[simp] theorem voteFor_head (c : Client) (v : BitVec 2) (s : State) : (voteFor c v s).head = s.head := rfl
@[simp] theorem voteFor_free (c : Client) (v : BitVec 2) (s : State) : (voteFor c v s).free = s.free := rfl
@[simp] theorem voteFor_pending (c : Client) (v : BitVec 2) (s : State) : (voteFor c v s).pending = s.pending := rfl

/-! ## request -/

@[simp] theorem request_fuse (c : Commit) (s : State) : (request c s).fuse = s.fuse := rfl
@[simp] theorem request_straps (c : Commit) (s : State) : (request c s).straps = s.straps := rfl
@[simp] theorem request_conf (c : Commit) (s : State) : (request c s).conf = s.conf := rfl
@[simp] theorem request_banks (c : Commit) (s : State) : (request c s).banks = s.banks := rfl
@[simp] theorem request_mem (c : Commit) (s : State) : (request c s).mem = s.mem := rfl
@[simp] theorem request_save (c : Commit) (s : State) : (request c s).save = s.save := rfl
@[simp] theorem request_log (c : Commit) (s : State) : (request c s).log = s.log := rfl
@[simp] theorem request_eva (c : Commit) (s : State) : (request c s).eva = s.eva := rfl
@[simp] theorem request_flags (c : Commit) (s : State) : (request c s).flags = s.flags := rfl
@[simp] theorem request_clk (c : Commit) (s : State) : (request c s).clk = s.clk := rfl
@[simp] theorem request_start (c : Commit) (s : State) : (request c s).start = s.start := rfl
@[simp] theorem request_prq (c : Commit) (s : State) : (request c s).prq = s.prq := rfl
@[simp] theorem request_power (c : Commit) (s : State) : (request c s).power = s.power := rfl
@[simp] theorem request_afe (c : Commit) (s : State) : (request c s).afe = s.afe := rfl
@[simp] theorem request_tiu (c : Commit) (s : State) : (request c s).tiu = s.tiu := rfl
@[simp] theorem request_seq (c : Commit) (s : State) : (request c s).seq = s.seq := rfl
@[simp] theorem request_fe (c : Commit) (s : State) : (request c s).fe = s.fe := rfl
@[simp] theorem request_ag (c : Commit) (s : State) : (request c s).ag = s.ag := rfl
@[simp] theorem request_temp (c : Commit) (s : State) : (request c s).temp = s.temp := rfl
@[simp] theorem request_ee (c : Commit) (s : State) : (request c s).ee = s.ee := rfl
@[simp] theorem request_hmc (c : Commit) (s : State) : (request c s).hmc = s.hmc := rfl
@[simp] theorem request_img (c : Commit) (s : State) : (request c s).img = s.img := rfl
@[simp] theorem request_snap (c : Commit) (s : State) : (request c s).snap = s.snap := rfl
@[simp] theorem request_lnk (c : Commit) (s : State) : (request c s).lnk = s.lnk := rfl
@[simp] theorem request_phy (c : Commit) (s : State) : (request c s).phy = s.phy := rfl
@[simp] theorem request_head (c : Commit) (s : State) : (request c s).head = s.head := rfl
@[simp] theorem request_free (c : Commit) (s : State) : (request c s).free = s.free := rfl
@[simp] theorem request_pending (c : Commit) (s : State) : (request c s).pending = s.pending := rfl

/-! ## occur -/

@[simp] theorem occur_bkd (k : Nat) (s : State) : (occur k s).bkd = s.bkd := rfl
@[simp] theorem occur_fuse (k : Nat) (s : State) : (occur k s).fuse = s.fuse := rfl
@[simp] theorem occur_straps (k : Nat) (s : State) : (occur k s).straps = s.straps := rfl
@[simp] theorem occur_conf (k : Nat) (s : State) : (occur k s).conf = s.conf := rfl
@[simp] theorem occur_banks (k : Nat) (s : State) : (occur k s).banks = s.banks := rfl
@[simp] theorem occur_mem (k : Nat) (s : State) : (occur k s).mem = s.mem := rfl
@[simp] theorem occur_save (k : Nat) (s : State) : (occur k s).save = s.save := rfl
@[simp] theorem occur_log (k : Nat) (s : State) : (occur k s).log = s.log := rfl
@[simp] theorem occur_eva (k : Nat) (s : State) : (occur k s).eva = s.eva := rfl
@[simp] theorem occur_clk (k : Nat) (s : State) : (occur k s).clk = s.clk := rfl
@[simp] theorem occur_start (k : Nat) (s : State) : (occur k s).start = s.start := rfl
@[simp] theorem occur_prq (k : Nat) (s : State) : (occur k s).prq = s.prq := rfl
@[simp] theorem occur_power (k : Nat) (s : State) : (occur k s).power = s.power := rfl
@[simp] theorem occur_afe (k : Nat) (s : State) : (occur k s).afe = s.afe := rfl
@[simp] theorem occur_tiu (k : Nat) (s : State) : (occur k s).tiu = s.tiu := rfl
@[simp] theorem occur_seq (k : Nat) (s : State) : (occur k s).seq = s.seq := rfl
@[simp] theorem occur_fe (k : Nat) (s : State) : (occur k s).fe = s.fe := rfl
@[simp] theorem occur_ag (k : Nat) (s : State) : (occur k s).ag = s.ag := rfl
@[simp] theorem occur_temp (k : Nat) (s : State) : (occur k s).temp = s.temp := rfl
@[simp] theorem occur_ee (k : Nat) (s : State) : (occur k s).ee = s.ee := rfl
@[simp] theorem occur_hmc (k : Nat) (s : State) : (occur k s).hmc = s.hmc := rfl
@[simp] theorem occur_img (k : Nat) (s : State) : (occur k s).img = s.img := rfl
@[simp] theorem occur_snap (k : Nat) (s : State) : (occur k s).snap = s.snap := rfl
@[simp] theorem occur_lnk (k : Nat) (s : State) : (occur k s).lnk = s.lnk := rfl
@[simp] theorem occur_phy (k : Nat) (s : State) : (occur k s).phy = s.phy := rfl
@[simp] theorem occur_head (k : Nat) (s : State) : (occur k s).head = s.head := rfl
@[simp] theorem occur_free (k : Nat) (s : State) : (occur k s).free = s.free := rfl
@[simp] theorem occur_pending (k : Nat) (s : State) : (occur k s).pending = s.pending := rfl

/-! ## setFault -/

@[simp] theorem setFault_fuse (s : State) : (setFault s).fuse = s.fuse := rfl
@[simp] theorem setFault_straps (s : State) : (setFault s).straps = s.straps := rfl
@[simp] theorem setFault_conf (s : State) : (setFault s).conf = s.conf := rfl
@[simp] theorem setFault_banks (s : State) : (setFault s).banks = s.banks := rfl
@[simp] theorem setFault_mem (s : State) : (setFault s).mem = s.mem := rfl
@[simp] theorem setFault_save (s : State) : (setFault s).save = s.save := rfl
@[simp] theorem setFault_log (s : State) : (setFault s).log = s.log := rfl
@[simp] theorem setFault_eva (s : State) : (setFault s).eva = s.eva := rfl
@[simp] theorem setFault_flags (s : State) : (setFault s).flags = s.flags := rfl
@[simp] theorem setFault_clk (s : State) : (setFault s).clk = s.clk := rfl
@[simp] theorem setFault_start (s : State) : (setFault s).start = s.start := rfl
@[simp] theorem setFault_prq (s : State) : (setFault s).prq = s.prq := rfl
@[simp] theorem setFault_power (s : State) : (setFault s).power = s.power := rfl
@[simp] theorem setFault_afe (s : State) : (setFault s).afe = s.afe := rfl
@[simp] theorem setFault_tiu (s : State) : (setFault s).tiu = s.tiu := rfl
@[simp] theorem setFault_seq (s : State) : (setFault s).seq = s.seq := rfl
@[simp] theorem setFault_fe (s : State) : (setFault s).fe = s.fe := rfl
@[simp] theorem setFault_ag (s : State) : (setFault s).ag = s.ag := rfl
@[simp] theorem setFault_temp (s : State) : (setFault s).temp = s.temp := rfl
@[simp] theorem setFault_ee (s : State) : (setFault s).ee = s.ee := rfl
@[simp] theorem setFault_hmc (s : State) : (setFault s).hmc = s.hmc := rfl
@[simp] theorem setFault_img (s : State) : (setFault s).img = s.img := rfl
@[simp] theorem setFault_snap (s : State) : (setFault s).snap = s.snap := rfl
@[simp] theorem setFault_lnk (s : State) : (setFault s).lnk = s.lnk := rfl
@[simp] theorem setFault_phy (s : State) : (setFault s).phy = s.phy := rfl
@[simp] theorem setFault_head (s : State) : (setFault s).head = s.head := rfl
@[simp] theorem setFault_free (s : State) : (setFault s).free = s.free := rfl
@[simp] theorem setFault_pending (s : State) : (setFault s).pending = s.pending := rfl

/-! ## editLedger -/

@[simp] theorem editLedger_fuse (f : Ledger → Ledger) (s : State) : (editLedger f s).fuse = s.fuse := rfl
@[simp] theorem editLedger_straps (f : Ledger → Ledger) (s : State) : (editLedger f s).straps = s.straps := rfl
@[simp] theorem editLedger_conf (f : Ledger → Ledger) (s : State) : (editLedger f s).conf = s.conf := rfl
@[simp] theorem editLedger_banks (f : Ledger → Ledger) (s : State) : (editLedger f s).banks = s.banks := rfl
@[simp] theorem editLedger_mem (f : Ledger → Ledger) (s : State) : (editLedger f s).mem = s.mem := rfl
@[simp] theorem editLedger_save (f : Ledger → Ledger) (s : State) : (editLedger f s).save = s.save := rfl
@[simp] theorem editLedger_log (f : Ledger → Ledger) (s : State) : (editLedger f s).log = s.log := rfl
@[simp] theorem editLedger_eva (f : Ledger → Ledger) (s : State) : (editLedger f s).eva = s.eva := rfl
@[simp] theorem editLedger_flags (f : Ledger → Ledger) (s : State) : (editLedger f s).flags = s.flags := rfl
@[simp] theorem editLedger_clk (f : Ledger → Ledger) (s : State) : (editLedger f s).clk = s.clk := rfl
@[simp] theorem editLedger_start (f : Ledger → Ledger) (s : State) : (editLedger f s).start = s.start := rfl
@[simp] theorem editLedger_prq (f : Ledger → Ledger) (s : State) : (editLedger f s).prq = s.prq := rfl
@[simp] theorem editLedger_power (f : Ledger → Ledger) (s : State) : (editLedger f s).power = s.power := rfl
@[simp] theorem editLedger_afe (f : Ledger → Ledger) (s : State) : (editLedger f s).afe = s.afe := rfl
@[simp] theorem editLedger_tiu (f : Ledger → Ledger) (s : State) : (editLedger f s).tiu = s.tiu := rfl
@[simp] theorem editLedger_seq (f : Ledger → Ledger) (s : State) : (editLedger f s).seq = s.seq := rfl
@[simp] theorem editLedger_fe (f : Ledger → Ledger) (s : State) : (editLedger f s).fe = s.fe := rfl
@[simp] theorem editLedger_ag (f : Ledger → Ledger) (s : State) : (editLedger f s).ag = s.ag := rfl
@[simp] theorem editLedger_temp (f : Ledger → Ledger) (s : State) : (editLedger f s).temp = s.temp := rfl
@[simp] theorem editLedger_ee (f : Ledger → Ledger) (s : State) : (editLedger f s).ee = s.ee := rfl
@[simp] theorem editLedger_hmc (f : Ledger → Ledger) (s : State) : (editLedger f s).hmc = s.hmc := rfl
@[simp] theorem editLedger_img (f : Ledger → Ledger) (s : State) : (editLedger f s).img = s.img := rfl
@[simp] theorem editLedger_snap (f : Ledger → Ledger) (s : State) : (editLedger f s).snap = s.snap := rfl
@[simp] theorem editLedger_lnk (f : Ledger → Ledger) (s : State) : (editLedger f s).lnk = s.lnk := rfl
@[simp] theorem editLedger_phy (f : Ledger → Ledger) (s : State) : (editLedger f s).phy = s.phy := rfl
@[simp] theorem editLedger_head (f : Ledger → Ledger) (s : State) : (editLedger f s).head = s.head := rfl
@[simp] theorem editLedger_free (f : Ledger → Ledger) (s : State) : (editLedger f s).free = s.free := rfl
@[simp] theorem editLedger_pending (f : Ledger → Ledger) (s : State) : (editLedger f s).pending = s.pending := rfl

/-! ## setLane -/

@[simp] theorem setLane_bkd (p : Idx3) (d : Dir) (x : AfeDir) (s : State) : (setLane p d x s).bkd = s.bkd := rfl
@[simp] theorem setLane_fuse (p : Idx3) (d : Dir) (x : AfeDir) (s : State) : (setLane p d x s).fuse = s.fuse := rfl
@[simp] theorem setLane_straps (p : Idx3) (d : Dir) (x : AfeDir) (s : State) : (setLane p d x s).straps = s.straps := rfl
@[simp] theorem setLane_conf (p : Idx3) (d : Dir) (x : AfeDir) (s : State) : (setLane p d x s).conf = s.conf := rfl
@[simp] theorem setLane_banks (p : Idx3) (d : Dir) (x : AfeDir) (s : State) : (setLane p d x s).banks = s.banks := rfl
@[simp] theorem setLane_mem (p : Idx3) (d : Dir) (x : AfeDir) (s : State) : (setLane p d x s).mem = s.mem := rfl
@[simp] theorem setLane_save (p : Idx3) (d : Dir) (x : AfeDir) (s : State) : (setLane p d x s).save = s.save := rfl
@[simp] theorem setLane_log (p : Idx3) (d : Dir) (x : AfeDir) (s : State) : (setLane p d x s).log = s.log := rfl
@[simp] theorem setLane_eva (p : Idx3) (d : Dir) (x : AfeDir) (s : State) : (setLane p d x s).eva = s.eva := rfl
@[simp] theorem setLane_flags (p : Idx3) (d : Dir) (x : AfeDir) (s : State) : (setLane p d x s).flags = s.flags := rfl
@[simp] theorem setLane_clk (p : Idx3) (d : Dir) (x : AfeDir) (s : State) : (setLane p d x s).clk = s.clk := rfl
@[simp] theorem setLane_start (p : Idx3) (d : Dir) (x : AfeDir) (s : State) : (setLane p d x s).start = s.start := rfl
@[simp] theorem setLane_prq (p : Idx3) (d : Dir) (x : AfeDir) (s : State) : (setLane p d x s).prq = s.prq := rfl
@[simp] theorem setLane_power (p : Idx3) (d : Dir) (x : AfeDir) (s : State) : (setLane p d x s).power = s.power := rfl
@[simp] theorem setLane_tiu (p : Idx3) (d : Dir) (x : AfeDir) (s : State) : (setLane p d x s).tiu = s.tiu := rfl
@[simp] theorem setLane_seq (p : Idx3) (d : Dir) (x : AfeDir) (s : State) : (setLane p d x s).seq = s.seq := rfl
@[simp] theorem setLane_fe (p : Idx3) (d : Dir) (x : AfeDir) (s : State) : (setLane p d x s).fe = s.fe := rfl
@[simp] theorem setLane_ag (p : Idx3) (d : Dir) (x : AfeDir) (s : State) : (setLane p d x s).ag = s.ag := rfl
@[simp] theorem setLane_temp (p : Idx3) (d : Dir) (x : AfeDir) (s : State) : (setLane p d x s).temp = s.temp := rfl
@[simp] theorem setLane_ee (p : Idx3) (d : Dir) (x : AfeDir) (s : State) : (setLane p d x s).ee = s.ee := rfl
@[simp] theorem setLane_hmc (p : Idx3) (d : Dir) (x : AfeDir) (s : State) : (setLane p d x s).hmc = s.hmc := rfl
@[simp] theorem setLane_img (p : Idx3) (d : Dir) (x : AfeDir) (s : State) : (setLane p d x s).img = s.img := rfl
@[simp] theorem setLane_snap (p : Idx3) (d : Dir) (x : AfeDir) (s : State) : (setLane p d x s).snap = s.snap := rfl
@[simp] theorem setLane_lnk (p : Idx3) (d : Dir) (x : AfeDir) (s : State) : (setLane p d x s).lnk = s.lnk := rfl
@[simp] theorem setLane_phy (p : Idx3) (d : Dir) (x : AfeDir) (s : State) : (setLane p d x s).phy = s.phy := rfl
@[simp] theorem setLane_head (p : Idx3) (d : Dir) (x : AfeDir) (s : State) : (setLane p d x s).head = s.head := rfl
@[simp] theorem setLane_free (p : Idx3) (d : Dir) (x : AfeDir) (s : State) : (setLane p d x s).free = s.free := rfl
@[simp] theorem setLane_pending (p : Idx3) (d : Dir) (x : AfeDir) (s : State) : (setLane p d x s).pending = s.pending := rfl

/-! ## setPipe -/

@[simp] theorem setPipe_bkd (p : Idx3) (f : FePipe) (s : State) : (setPipe p f s).bkd = s.bkd := rfl
@[simp] theorem setPipe_fuse (p : Idx3) (f : FePipe) (s : State) : (setPipe p f s).fuse = s.fuse := rfl
@[simp] theorem setPipe_straps (p : Idx3) (f : FePipe) (s : State) : (setPipe p f s).straps = s.straps := rfl
@[simp] theorem setPipe_conf (p : Idx3) (f : FePipe) (s : State) : (setPipe p f s).conf = s.conf := rfl
@[simp] theorem setPipe_banks (p : Idx3) (f : FePipe) (s : State) : (setPipe p f s).banks = s.banks := rfl
@[simp] theorem setPipe_mem (p : Idx3) (f : FePipe) (s : State) : (setPipe p f s).mem = s.mem := rfl
@[simp] theorem setPipe_save (p : Idx3) (f : FePipe) (s : State) : (setPipe p f s).save = s.save := rfl
@[simp] theorem setPipe_log (p : Idx3) (f : FePipe) (s : State) : (setPipe p f s).log = s.log := rfl
@[simp] theorem setPipe_eva (p : Idx3) (f : FePipe) (s : State) : (setPipe p f s).eva = s.eva := rfl
@[simp] theorem setPipe_flags (p : Idx3) (f : FePipe) (s : State) : (setPipe p f s).flags = s.flags := rfl
@[simp] theorem setPipe_clk (p : Idx3) (f : FePipe) (s : State) : (setPipe p f s).clk = s.clk := rfl
@[simp] theorem setPipe_start (p : Idx3) (f : FePipe) (s : State) : (setPipe p f s).start = s.start := rfl
@[simp] theorem setPipe_prq (p : Idx3) (f : FePipe) (s : State) : (setPipe p f s).prq = s.prq := rfl
@[simp] theorem setPipe_power (p : Idx3) (f : FePipe) (s : State) : (setPipe p f s).power = s.power := rfl
@[simp] theorem setPipe_afe (p : Idx3) (f : FePipe) (s : State) : (setPipe p f s).afe = s.afe := rfl
@[simp] theorem setPipe_tiu (p : Idx3) (f : FePipe) (s : State) : (setPipe p f s).tiu = s.tiu := rfl
@[simp] theorem setPipe_seq (p : Idx3) (f : FePipe) (s : State) : (setPipe p f s).seq = s.seq := rfl
@[simp] theorem setPipe_ag (p : Idx3) (f : FePipe) (s : State) : (setPipe p f s).ag = s.ag := rfl
@[simp] theorem setPipe_temp (p : Idx3) (f : FePipe) (s : State) : (setPipe p f s).temp = s.temp := rfl
@[simp] theorem setPipe_ee (p : Idx3) (f : FePipe) (s : State) : (setPipe p f s).ee = s.ee := rfl
@[simp] theorem setPipe_hmc (p : Idx3) (f : FePipe) (s : State) : (setPipe p f s).hmc = s.hmc := rfl
@[simp] theorem setPipe_img (p : Idx3) (f : FePipe) (s : State) : (setPipe p f s).img = s.img := rfl
@[simp] theorem setPipe_snap (p : Idx3) (f : FePipe) (s : State) : (setPipe p f s).snap = s.snap := rfl
@[simp] theorem setPipe_lnk (p : Idx3) (f : FePipe) (s : State) : (setPipe p f s).lnk = s.lnk := rfl
@[simp] theorem setPipe_phy (p : Idx3) (f : FePipe) (s : State) : (setPipe p f s).phy = s.phy := rfl
@[simp] theorem setPipe_head (p : Idx3) (f : FePipe) (s : State) : (setPipe p f s).head = s.head := rfl
@[simp] theorem setPipe_free (p : Idx3) (f : FePipe) (s : State) : (setPipe p f s).free = s.free := rfl
@[simp] theorem setPipe_pending (p : Idx3) (f : FePipe) (s : State) : (setPipe p f s).pending = s.pending := rfl

/-! ## openSession -/

@[simp] theorem openSession_fuse (s : State) : (openSession s).fuse = s.fuse := rfl
@[simp] theorem openSession_straps (s : State) : (openSession s).straps = s.straps := rfl
@[simp] theorem openSession_conf (s : State) : (openSession s).conf = s.conf := rfl
@[simp] theorem openSession_banks (s : State) : (openSession s).banks = s.banks := rfl
@[simp] theorem openSession_mem (s : State) : (openSession s).mem = s.mem := rfl
@[simp] theorem openSession_save (s : State) : (openSession s).save = s.save := rfl
@[simp] theorem openSession_log (s : State) : (openSession s).log = s.log := rfl
@[simp] theorem openSession_eva (s : State) : (openSession s).eva = s.eva := rfl
@[simp] theorem openSession_flags (s : State) : (openSession s).flags = s.flags := rfl
@[simp] theorem openSession_clk (s : State) : (openSession s).clk = s.clk := rfl
@[simp] theorem openSession_start (s : State) : (openSession s).start = s.start := rfl
@[simp] theorem openSession_prq (s : State) : (openSession s).prq = s.prq := rfl
@[simp] theorem openSession_power (s : State) : (openSession s).power = s.power := rfl
@[simp] theorem openSession_afe (s : State) : (openSession s).afe = s.afe := rfl
@[simp] theorem openSession_tiu (s : State) : (openSession s).tiu = s.tiu := rfl
@[simp] theorem openSession_seq (s : State) : (openSession s).seq = s.seq := rfl
@[simp] theorem openSession_fe (s : State) : (openSession s).fe = s.fe := rfl
@[simp] theorem openSession_ag (s : State) : (openSession s).ag = s.ag := rfl
@[simp] theorem openSession_temp (s : State) : (openSession s).temp = s.temp := rfl
@[simp] theorem openSession_ee (s : State) : (openSession s).ee = s.ee := rfl
@[simp] theorem openSession_hmc (s : State) : (openSession s).hmc = s.hmc := rfl
@[simp] theorem openSession_img (s : State) : (openSession s).img = s.img := rfl
@[simp] theorem openSession_snap (s : State) : (openSession s).snap = s.snap := rfl
@[simp] theorem openSession_lnk (s : State) : (openSession s).lnk = s.lnk := rfl
@[simp] theorem openSession_phy (s : State) : (openSession s).phy = s.phy := rfl
@[simp] theorem openSession_head (s : State) : (openSession s).head = s.head := rfl
@[simp] theorem openSession_free (s : State) : (openSession s).free = s.free := rfl
@[simp] theorem openSession_pending (s : State) : (openSession s).pending = s.pending := rfl

/-! ## releaseSession -/

@[simp] theorem releaseSession_fuse (s : State) : (releaseSession s).fuse = s.fuse := rfl
@[simp] theorem releaseSession_straps (s : State) : (releaseSession s).straps = s.straps := rfl
@[simp] theorem releaseSession_conf (s : State) : (releaseSession s).conf = s.conf := rfl
@[simp] theorem releaseSession_banks (s : State) : (releaseSession s).banks = s.banks := rfl
@[simp] theorem releaseSession_mem (s : State) : (releaseSession s).mem = s.mem := rfl
@[simp] theorem releaseSession_save (s : State) : (releaseSession s).save = s.save := rfl
@[simp] theorem releaseSession_log (s : State) : (releaseSession s).log = s.log := rfl
@[simp] theorem releaseSession_eva (s : State) : (releaseSession s).eva = s.eva := rfl
@[simp] theorem releaseSession_flags (s : State) : (releaseSession s).flags = s.flags := rfl
@[simp] theorem releaseSession_clk (s : State) : (releaseSession s).clk = s.clk := rfl
@[simp] theorem releaseSession_start (s : State) : (releaseSession s).start = s.start := rfl
@[simp] theorem releaseSession_prq (s : State) : (releaseSession s).prq = s.prq := rfl
@[simp] theorem releaseSession_power (s : State) : (releaseSession s).power = s.power := rfl
@[simp] theorem releaseSession_afe (s : State) : (releaseSession s).afe = s.afe := rfl
@[simp] theorem releaseSession_tiu (s : State) : (releaseSession s).tiu = s.tiu := rfl
@[simp] theorem releaseSession_seq (s : State) : (releaseSession s).seq = s.seq := rfl
@[simp] theorem releaseSession_fe (s : State) : (releaseSession s).fe = s.fe := rfl
@[simp] theorem releaseSession_ag (s : State) : (releaseSession s).ag = s.ag := rfl
@[simp] theorem releaseSession_temp (s : State) : (releaseSession s).temp = s.temp := rfl
@[simp] theorem releaseSession_ee (s : State) : (releaseSession s).ee = s.ee := rfl
@[simp] theorem releaseSession_hmc (s : State) : (releaseSession s).hmc = s.hmc := rfl
@[simp] theorem releaseSession_img (s : State) : (releaseSession s).img = s.img := rfl
@[simp] theorem releaseSession_snap (s : State) : (releaseSession s).snap = s.snap := rfl
@[simp] theorem releaseSession_lnk (s : State) : (releaseSession s).lnk = s.lnk := rfl
@[simp] theorem releaseSession_phy (s : State) : (releaseSession s).phy = s.phy := rfl
@[simp] theorem releaseSession_head (s : State) : (releaseSession s).head = s.head := rfl
@[simp] theorem releaseSession_free (s : State) : (releaseSession s).free = s.free := rfl
@[simp] theorem releaseSession_pending (s : State) : (releaseSession s).pending = s.pending := rfl

/-! ## sendLu -/

@[simp] theorem sendLu_bkd (x : Sent) (s : State) : (sendLu x s).bkd = s.bkd := rfl
@[simp] theorem sendLu_fuse (x : Sent) (s : State) : (sendLu x s).fuse = s.fuse := rfl
@[simp] theorem sendLu_straps (x : Sent) (s : State) : (sendLu x s).straps = s.straps := rfl
@[simp] theorem sendLu_conf (x : Sent) (s : State) : (sendLu x s).conf = s.conf := rfl
@[simp] theorem sendLu_banks (x : Sent) (s : State) : (sendLu x s).banks = s.banks := rfl
@[simp] theorem sendLu_mem (x : Sent) (s : State) : (sendLu x s).mem = s.mem := rfl
@[simp] theorem sendLu_save (x : Sent) (s : State) : (sendLu x s).save = s.save := rfl
@[simp] theorem sendLu_log (x : Sent) (s : State) : (sendLu x s).log = s.log := rfl
@[simp] theorem sendLu_eva (x : Sent) (s : State) : (sendLu x s).eva = s.eva := rfl
@[simp] theorem sendLu_flags (x : Sent) (s : State) : (sendLu x s).flags = s.flags := rfl
@[simp] theorem sendLu_clk (x : Sent) (s : State) : (sendLu x s).clk = s.clk := rfl
@[simp] theorem sendLu_start (x : Sent) (s : State) : (sendLu x s).start = s.start := rfl
@[simp] theorem sendLu_prq (x : Sent) (s : State) : (sendLu x s).prq = s.prq := rfl
@[simp] theorem sendLu_power (x : Sent) (s : State) : (sendLu x s).power = s.power := rfl
@[simp] theorem sendLu_afe (x : Sent) (s : State) : (sendLu x s).afe = s.afe := rfl
@[simp] theorem sendLu_tiu (x : Sent) (s : State) : (sendLu x s).tiu = s.tiu := rfl
@[simp] theorem sendLu_seq (x : Sent) (s : State) : (sendLu x s).seq = s.seq := rfl
@[simp] theorem sendLu_fe (x : Sent) (s : State) : (sendLu x s).fe = s.fe := rfl
@[simp] theorem sendLu_ag (x : Sent) (s : State) : (sendLu x s).ag = s.ag := rfl
@[simp] theorem sendLu_temp (x : Sent) (s : State) : (sendLu x s).temp = s.temp := rfl
@[simp] theorem sendLu_ee (x : Sent) (s : State) : (sendLu x s).ee = s.ee := rfl
@[simp] theorem sendLu_hmc (x : Sent) (s : State) : (sendLu x s).hmc = s.hmc := rfl
@[simp] theorem sendLu_img (x : Sent) (s : State) : (sendLu x s).img = s.img := rfl
@[simp] theorem sendLu_snap (x : Sent) (s : State) : (sendLu x s).snap = s.snap := rfl
@[simp] theorem sendLu_head (x : Sent) (s : State) : (sendLu x s).head = s.head := rfl
@[simp] theorem sendLu_free (x : Sent) (s : State) : (sendLu x s).free = s.free := rfl
@[simp] theorem sendLu_pending (x : Sent) (s : State) : (sendLu x s).pending = s.pending := rfl

/-! ## sendLd -/

@[simp] theorem sendLd_bkd (x : Sent) (s : State) : (sendLd x s).bkd = s.bkd := rfl
@[simp] theorem sendLd_fuse (x : Sent) (s : State) : (sendLd x s).fuse = s.fuse := rfl
@[simp] theorem sendLd_straps (x : Sent) (s : State) : (sendLd x s).straps = s.straps := rfl
@[simp] theorem sendLd_conf (x : Sent) (s : State) : (sendLd x s).conf = s.conf := rfl
@[simp] theorem sendLd_banks (x : Sent) (s : State) : (sendLd x s).banks = s.banks := rfl
@[simp] theorem sendLd_mem (x : Sent) (s : State) : (sendLd x s).mem = s.mem := rfl
@[simp] theorem sendLd_save (x : Sent) (s : State) : (sendLd x s).save = s.save := rfl
@[simp] theorem sendLd_log (x : Sent) (s : State) : (sendLd x s).log = s.log := rfl
@[simp] theorem sendLd_eva (x : Sent) (s : State) : (sendLd x s).eva = s.eva := rfl
@[simp] theorem sendLd_flags (x : Sent) (s : State) : (sendLd x s).flags = s.flags := rfl
@[simp] theorem sendLd_clk (x : Sent) (s : State) : (sendLd x s).clk = s.clk := rfl
@[simp] theorem sendLd_start (x : Sent) (s : State) : (sendLd x s).start = s.start := rfl
@[simp] theorem sendLd_prq (x : Sent) (s : State) : (sendLd x s).prq = s.prq := rfl
@[simp] theorem sendLd_power (x : Sent) (s : State) : (sendLd x s).power = s.power := rfl
@[simp] theorem sendLd_afe (x : Sent) (s : State) : (sendLd x s).afe = s.afe := rfl
@[simp] theorem sendLd_tiu (x : Sent) (s : State) : (sendLd x s).tiu = s.tiu := rfl
@[simp] theorem sendLd_seq (x : Sent) (s : State) : (sendLd x s).seq = s.seq := rfl
@[simp] theorem sendLd_fe (x : Sent) (s : State) : (sendLd x s).fe = s.fe := rfl
@[simp] theorem sendLd_ag (x : Sent) (s : State) : (sendLd x s).ag = s.ag := rfl
@[simp] theorem sendLd_temp (x : Sent) (s : State) : (sendLd x s).temp = s.temp := rfl
@[simp] theorem sendLd_ee (x : Sent) (s : State) : (sendLd x s).ee = s.ee := rfl
@[simp] theorem sendLd_hmc (x : Sent) (s : State) : (sendLd x s).hmc = s.hmc := rfl
@[simp] theorem sendLd_img (x : Sent) (s : State) : (sendLd x s).img = s.img := rfl
@[simp] theorem sendLd_snap (x : Sent) (s : State) : (sendLd x s).snap = s.snap := rfl
@[simp] theorem sendLd_head (x : Sent) (s : State) : (sendLd x s).head = s.head := rfl
@[simp] theorem sendLd_free (x : Sent) (s : State) : (sendLd x s).free = s.free := rfl
@[simp] theorem sendLd_pending (x : Sent) (s : State) : (sendLd x s).pending = s.pending := rfl

/-! ## takePolarity -/

@[simp] theorem takePolarity_bkd (f : Frame) (s : State) : (takePolarity f s).bkd = s.bkd := rfl
@[simp] theorem takePolarity_fuse (f : Frame) (s : State) : (takePolarity f s).fuse = s.fuse := rfl
@[simp] theorem takePolarity_straps (f : Frame) (s : State) : (takePolarity f s).straps = s.straps := rfl
@[simp] theorem takePolarity_conf (f : Frame) (s : State) : (takePolarity f s).conf = s.conf := rfl
@[simp] theorem takePolarity_banks (f : Frame) (s : State) : (takePolarity f s).banks = s.banks := rfl
@[simp] theorem takePolarity_mem (f : Frame) (s : State) : (takePolarity f s).mem = s.mem := rfl
@[simp] theorem takePolarity_save (f : Frame) (s : State) : (takePolarity f s).save = s.save := rfl
@[simp] theorem takePolarity_log (f : Frame) (s : State) : (takePolarity f s).log = s.log := rfl
@[simp] theorem takePolarity_eva (f : Frame) (s : State) : (takePolarity f s).eva = s.eva := rfl
@[simp] theorem takePolarity_flags (f : Frame) (s : State) : (takePolarity f s).flags = s.flags := rfl
@[simp] theorem takePolarity_clk (f : Frame) (s : State) : (takePolarity f s).clk = s.clk := rfl
@[simp] theorem takePolarity_start (f : Frame) (s : State) : (takePolarity f s).start = s.start := rfl
@[simp] theorem takePolarity_prq (f : Frame) (s : State) : (takePolarity f s).prq = s.prq := rfl
@[simp] theorem takePolarity_power (f : Frame) (s : State) : (takePolarity f s).power = s.power := rfl
@[simp] theorem takePolarity_afe (f : Frame) (s : State) : (takePolarity f s).afe = s.afe := rfl
@[simp] theorem takePolarity_tiu (f : Frame) (s : State) : (takePolarity f s).tiu = s.tiu := rfl
@[simp] theorem takePolarity_seq (f : Frame) (s : State) : (takePolarity f s).seq = s.seq := rfl
@[simp] theorem takePolarity_fe (f : Frame) (s : State) : (takePolarity f s).fe = s.fe := rfl
@[simp] theorem takePolarity_ag (f : Frame) (s : State) : (takePolarity f s).ag = s.ag := rfl
@[simp] theorem takePolarity_temp (f : Frame) (s : State) : (takePolarity f s).temp = s.temp := rfl
@[simp] theorem takePolarity_ee (f : Frame) (s : State) : (takePolarity f s).ee = s.ee := rfl
@[simp] theorem takePolarity_hmc (f : Frame) (s : State) : (takePolarity f s).hmc = s.hmc := rfl
@[simp] theorem takePolarity_img (f : Frame) (s : State) : (takePolarity f s).img = s.img := rfl
@[simp] theorem takePolarity_snap (f : Frame) (s : State) : (takePolarity f s).snap = s.snap := rfl
@[simp] theorem takePolarity_lnk (f : Frame) (s : State) : (takePolarity f s).lnk = s.lnk := rfl
@[simp] theorem takePolarity_head (f : Frame) (s : State) : (takePolarity f s).head = s.head := rfl
@[simp] theorem takePolarity_free (f : Frame) (s : State) : (takePolarity f s).free = s.free := rfl
@[simp] theorem takePolarity_pending (f : Frame) (s : State) : (takePolarity f s).pending = s.pending := rfl

/-! ## toReference -/

@[simp] theorem toReference_bkd (s : State) : (toReference s).bkd = s.bkd := rfl
@[simp] theorem toReference_fuse (s : State) : (toReference s).fuse = s.fuse := rfl
@[simp] theorem toReference_straps (s : State) : (toReference s).straps = s.straps := rfl
@[simp] theorem toReference_conf (s : State) : (toReference s).conf = s.conf := rfl
@[simp] theorem toReference_banks (s : State) : (toReference s).banks = s.banks := rfl
@[simp] theorem toReference_mem (s : State) : (toReference s).mem = s.mem := rfl
@[simp] theorem toReference_save (s : State) : (toReference s).save = s.save := rfl
@[simp] theorem toReference_log (s : State) : (toReference s).log = s.log := rfl
@[simp] theorem toReference_eva (s : State) : (toReference s).eva = s.eva := rfl
@[simp] theorem toReference_flags (s : State) : (toReference s).flags = s.flags := rfl
@[simp] theorem toReference_start (s : State) : (toReference s).start = s.start := rfl
@[simp] theorem toReference_prq (s : State) : (toReference s).prq = s.prq := rfl
@[simp] theorem toReference_power (s : State) : (toReference s).power = s.power := rfl
@[simp] theorem toReference_afe (s : State) : (toReference s).afe = s.afe := rfl
@[simp] theorem toReference_seq (s : State) : (toReference s).seq = s.seq := rfl
@[simp] theorem toReference_fe (s : State) : (toReference s).fe = s.fe := rfl
@[simp] theorem toReference_ag (s : State) : (toReference s).ag = s.ag := rfl
@[simp] theorem toReference_temp (s : State) : (toReference s).temp = s.temp := rfl
@[simp] theorem toReference_ee (s : State) : (toReference s).ee = s.ee := rfl
@[simp] theorem toReference_hmc (s : State) : (toReference s).hmc = s.hmc := rfl
@[simp] theorem toReference_img (s : State) : (toReference s).img = s.img := rfl
@[simp] theorem toReference_snap (s : State) : (toReference s).snap = s.snap := rfl
@[simp] theorem toReference_lnk (s : State) : (toReference s).lnk = s.lnk := rfl
@[simp] theorem toReference_phy (s : State) : (toReference s).phy = s.phy := rfl
@[simp] theorem toReference_head (s : State) : (toReference s).head = s.head := rfl
@[simp] theorem toReference_free (s : State) : (toReference s).free = s.free := rfl
@[simp] theorem toReference_pending (s : State) : (toReference s).pending = s.pending := rfl

/-! ## revote -/

@[simp] theorem revote_bkd (f : Power → Power) (s : State) : (revote f s).bkd = s.bkd := rfl
@[simp] theorem revote_fuse (f : Power → Power) (s : State) : (revote f s).fuse = s.fuse := rfl
@[simp] theorem revote_straps (f : Power → Power) (s : State) : (revote f s).straps = s.straps := rfl
@[simp] theorem revote_conf (f : Power → Power) (s : State) : (revote f s).conf = s.conf := rfl
@[simp] theorem revote_banks (f : Power → Power) (s : State) : (revote f s).banks = s.banks := rfl
@[simp] theorem revote_mem (f : Power → Power) (s : State) : (revote f s).mem = s.mem := rfl
@[simp] theorem revote_save (f : Power → Power) (s : State) : (revote f s).save = s.save := rfl
@[simp] theorem revote_log (f : Power → Power) (s : State) : (revote f s).log = s.log := rfl
@[simp] theorem revote_eva (f : Power → Power) (s : State) : (revote f s).eva = s.eva := rfl
@[simp] theorem revote_flags (f : Power → Power) (s : State) : (revote f s).flags = s.flags := rfl
@[simp] theorem revote_clk (f : Power → Power) (s : State) : (revote f s).clk = s.clk := rfl
@[simp] theorem revote_start (f : Power → Power) (s : State) : (revote f s).start = s.start := rfl
@[simp] theorem revote_prq (f : Power → Power) (s : State) : (revote f s).prq = s.prq := rfl
@[simp] theorem revote_afe (f : Power → Power) (s : State) : (revote f s).afe = s.afe := rfl
@[simp] theorem revote_tiu (f : Power → Power) (s : State) : (revote f s).tiu = s.tiu := rfl
@[simp] theorem revote_seq (f : Power → Power) (s : State) : (revote f s).seq = s.seq := rfl
@[simp] theorem revote_fe (f : Power → Power) (s : State) : (revote f s).fe = s.fe := rfl
@[simp] theorem revote_ag (f : Power → Power) (s : State) : (revote f s).ag = s.ag := rfl
@[simp] theorem revote_temp (f : Power → Power) (s : State) : (revote f s).temp = s.temp := rfl
@[simp] theorem revote_ee (f : Power → Power) (s : State) : (revote f s).ee = s.ee := rfl
@[simp] theorem revote_hmc (f : Power → Power) (s : State) : (revote f s).hmc = s.hmc := rfl
@[simp] theorem revote_img (f : Power → Power) (s : State) : (revote f s).img = s.img := rfl
@[simp] theorem revote_snap (f : Power → Power) (s : State) : (revote f s).snap = s.snap := rfl
@[simp] theorem revote_lnk (f : Power → Power) (s : State) : (revote f s).lnk = s.lnk := rfl
@[simp] theorem revote_phy (f : Power → Power) (s : State) : (revote f s).phy = s.phy := rfl
@[simp] theorem revote_head (f : Power → Power) (s : State) : (revote f s).head = s.head := rfl
@[simp] theorem revote_free (f : Power → Power) (s : State) : (revote f s).free = s.free := rfl
@[simp] theorem revote_pending (f : Power → Power) (s : State) : (revote f s).pending = s.pending := rfl

/-! ## sendDown -/

@[simp] theorem sendDown_bkd (r : HeadReq) (s : State) : (sendDown r s).bkd = s.bkd := rfl
@[simp] theorem sendDown_fuse (r : HeadReq) (s : State) : (sendDown r s).fuse = s.fuse := rfl
@[simp] theorem sendDown_straps (r : HeadReq) (s : State) : (sendDown r s).straps = s.straps := rfl
@[simp] theorem sendDown_conf (r : HeadReq) (s : State) : (sendDown r s).conf = s.conf := rfl
@[simp] theorem sendDown_banks (r : HeadReq) (s : State) : (sendDown r s).banks = s.banks := rfl
@[simp] theorem sendDown_mem (r : HeadReq) (s : State) : (sendDown r s).mem = s.mem := rfl
@[simp] theorem sendDown_save (r : HeadReq) (s : State) : (sendDown r s).save = s.save := rfl
@[simp] theorem sendDown_log (r : HeadReq) (s : State) : (sendDown r s).log = s.log := rfl
@[simp] theorem sendDown_eva (r : HeadReq) (s : State) : (sendDown r s).eva = s.eva := rfl
@[simp] theorem sendDown_flags (r : HeadReq) (s : State) : (sendDown r s).flags = s.flags := rfl
@[simp] theorem sendDown_clk (r : HeadReq) (s : State) : (sendDown r s).clk = s.clk := rfl
@[simp] theorem sendDown_start (r : HeadReq) (s : State) : (sendDown r s).start = s.start := rfl
@[simp] theorem sendDown_prq (r : HeadReq) (s : State) : (sendDown r s).prq = s.prq := rfl
@[simp] theorem sendDown_power (r : HeadReq) (s : State) : (sendDown r s).power = s.power := rfl
@[simp] theorem sendDown_afe (r : HeadReq) (s : State) : (sendDown r s).afe = s.afe := rfl
@[simp] theorem sendDown_tiu (r : HeadReq) (s : State) : (sendDown r s).tiu = s.tiu := rfl
@[simp] theorem sendDown_seq (r : HeadReq) (s : State) : (sendDown r s).seq = s.seq := rfl
@[simp] theorem sendDown_fe (r : HeadReq) (s : State) : (sendDown r s).fe = s.fe := rfl
@[simp] theorem sendDown_ag (r : HeadReq) (s : State) : (sendDown r s).ag = s.ag := rfl
@[simp] theorem sendDown_temp (r : HeadReq) (s : State) : (sendDown r s).temp = s.temp := rfl
@[simp] theorem sendDown_ee (r : HeadReq) (s : State) : (sendDown r s).ee = s.ee := rfl
@[simp] theorem sendDown_hmc (r : HeadReq) (s : State) : (sendDown r s).hmc = s.hmc := rfl
@[simp] theorem sendDown_img (r : HeadReq) (s : State) : (sendDown r s).img = s.img := rfl
@[simp] theorem sendDown_snap (r : HeadReq) (s : State) : (sendDown r s).snap = s.snap := rfl
@[simp] theorem sendDown_head (r : HeadReq) (s : State) : (sendDown r s).head = s.head := rfl
@[simp] theorem sendDown_free (r : HeadReq) (s : State) : (sendDown r s).free = s.free := rfl
@[simp] theorem sendDown_pending (r : HeadReq) (s : State) : (sendDown r s).pending = s.pending := rfl

/-! ## sendUp -/

@[simp] theorem sendUp_bkd (b : List Byte) (s : State) : (sendUp b s).bkd = s.bkd := rfl
@[simp] theorem sendUp_fuse (b : List Byte) (s : State) : (sendUp b s).fuse = s.fuse := rfl
@[simp] theorem sendUp_straps (b : List Byte) (s : State) : (sendUp b s).straps = s.straps := rfl
@[simp] theorem sendUp_conf (b : List Byte) (s : State) : (sendUp b s).conf = s.conf := rfl
@[simp] theorem sendUp_banks (b : List Byte) (s : State) : (sendUp b s).banks = s.banks := rfl
@[simp] theorem sendUp_mem (b : List Byte) (s : State) : (sendUp b s).mem = s.mem := rfl
@[simp] theorem sendUp_save (b : List Byte) (s : State) : (sendUp b s).save = s.save := rfl
@[simp] theorem sendUp_log (b : List Byte) (s : State) : (sendUp b s).log = s.log := rfl
@[simp] theorem sendUp_eva (b : List Byte) (s : State) : (sendUp b s).eva = s.eva := rfl
@[simp] theorem sendUp_flags (b : List Byte) (s : State) : (sendUp b s).flags = s.flags := rfl
@[simp] theorem sendUp_clk (b : List Byte) (s : State) : (sendUp b s).clk = s.clk := rfl
@[simp] theorem sendUp_start (b : List Byte) (s : State) : (sendUp b s).start = s.start := rfl
@[simp] theorem sendUp_prq (b : List Byte) (s : State) : (sendUp b s).prq = s.prq := rfl
@[simp] theorem sendUp_power (b : List Byte) (s : State) : (sendUp b s).power = s.power := rfl
@[simp] theorem sendUp_afe (b : List Byte) (s : State) : (sendUp b s).afe = s.afe := rfl
@[simp] theorem sendUp_tiu (b : List Byte) (s : State) : (sendUp b s).tiu = s.tiu := rfl
@[simp] theorem sendUp_seq (b : List Byte) (s : State) : (sendUp b s).seq = s.seq := rfl
@[simp] theorem sendUp_fe (b : List Byte) (s : State) : (sendUp b s).fe = s.fe := rfl
@[simp] theorem sendUp_ag (b : List Byte) (s : State) : (sendUp b s).ag = s.ag := rfl
@[simp] theorem sendUp_temp (b : List Byte) (s : State) : (sendUp b s).temp = s.temp := rfl
@[simp] theorem sendUp_ee (b : List Byte) (s : State) : (sendUp b s).ee = s.ee := rfl
@[simp] theorem sendUp_hmc (b : List Byte) (s : State) : (sendUp b s).hmc = s.hmc := rfl
@[simp] theorem sendUp_img (b : List Byte) (s : State) : (sendUp b s).img = s.img := rfl
@[simp] theorem sendUp_snap (b : List Byte) (s : State) : (sendUp b s).snap = s.snap := rfl
@[simp] theorem sendUp_head (b : List Byte) (s : State) : (sendUp b s).head = s.head := rfl
@[simp] theorem sendUp_free (b : List Byte) (s : State) : (sendUp b s).free = s.free := rfl
@[simp] theorem sendUp_pending (b : List Byte) (s : State) : (sendUp b s).pending = s.pending := rfl

/-! ## enqueue -/

@[simp] theorem enqueue_bkd (dest : BitVec 10) (t : BitVec 6) (p : List Byte) (s : State) : (enqueue dest t p s).bkd = s.bkd := rfl
@[simp] theorem enqueue_fuse (dest : BitVec 10) (t : BitVec 6) (p : List Byte) (s : State) : (enqueue dest t p s).fuse = s.fuse := rfl
@[simp] theorem enqueue_straps (dest : BitVec 10) (t : BitVec 6) (p : List Byte) (s : State) : (enqueue dest t p s).straps = s.straps := rfl
@[simp] theorem enqueue_conf (dest : BitVec 10) (t : BitVec 6) (p : List Byte) (s : State) : (enqueue dest t p s).conf = s.conf := rfl
@[simp] theorem enqueue_banks (dest : BitVec 10) (t : BitVec 6) (p : List Byte) (s : State) : (enqueue dest t p s).banks = s.banks := rfl
@[simp] theorem enqueue_mem (dest : BitVec 10) (t : BitVec 6) (p : List Byte) (s : State) : (enqueue dest t p s).mem = s.mem := rfl
@[simp] theorem enqueue_save (dest : BitVec 10) (t : BitVec 6) (p : List Byte) (s : State) : (enqueue dest t p s).save = s.save := rfl
@[simp] theorem enqueue_log (dest : BitVec 10) (t : BitVec 6) (p : List Byte) (s : State) : (enqueue dest t p s).log = s.log := rfl
@[simp] theorem enqueue_eva (dest : BitVec 10) (t : BitVec 6) (p : List Byte) (s : State) : (enqueue dest t p s).eva = s.eva := rfl
@[simp] theorem enqueue_flags (dest : BitVec 10) (t : BitVec 6) (p : List Byte) (s : State) : (enqueue dest t p s).flags = s.flags := rfl
@[simp] theorem enqueue_clk (dest : BitVec 10) (t : BitVec 6) (p : List Byte) (s : State) : (enqueue dest t p s).clk = s.clk := rfl
@[simp] theorem enqueue_start (dest : BitVec 10) (t : BitVec 6) (p : List Byte) (s : State) : (enqueue dest t p s).start = s.start := rfl
@[simp] theorem enqueue_prq (dest : BitVec 10) (t : BitVec 6) (p : List Byte) (s : State) : (enqueue dest t p s).prq = s.prq := rfl
@[simp] theorem enqueue_power (dest : BitVec 10) (t : BitVec 6) (p : List Byte) (s : State) : (enqueue dest t p s).power = s.power := rfl
@[simp] theorem enqueue_afe (dest : BitVec 10) (t : BitVec 6) (p : List Byte) (s : State) : (enqueue dest t p s).afe = s.afe := rfl
@[simp] theorem enqueue_tiu (dest : BitVec 10) (t : BitVec 6) (p : List Byte) (s : State) : (enqueue dest t p s).tiu = s.tiu := rfl
@[simp] theorem enqueue_seq (dest : BitVec 10) (t : BitVec 6) (p : List Byte) (s : State) : (enqueue dest t p s).seq = s.seq := rfl
@[simp] theorem enqueue_fe (dest : BitVec 10) (t : BitVec 6) (p : List Byte) (s : State) : (enqueue dest t p s).fe = s.fe := rfl
@[simp] theorem enqueue_ag (dest : BitVec 10) (t : BitVec 6) (p : List Byte) (s : State) : (enqueue dest t p s).ag = s.ag := rfl
@[simp] theorem enqueue_temp (dest : BitVec 10) (t : BitVec 6) (p : List Byte) (s : State) : (enqueue dest t p s).temp = s.temp := rfl
@[simp] theorem enqueue_ee (dest : BitVec 10) (t : BitVec 6) (p : List Byte) (s : State) : (enqueue dest t p s).ee = s.ee := rfl
@[simp] theorem enqueue_hmc (dest : BitVec 10) (t : BitVec 6) (p : List Byte) (s : State) : (enqueue dest t p s).hmc = s.hmc := rfl
@[simp] theorem enqueue_img (dest : BitVec 10) (t : BitVec 6) (p : List Byte) (s : State) : (enqueue dest t p s).img = s.img := rfl
@[simp] theorem enqueue_snap (dest : BitVec 10) (t : BitVec 6) (p : List Byte) (s : State) : (enqueue dest t p s).snap = s.snap := rfl
@[simp] theorem enqueue_lnk (dest : BitVec 10) (t : BitVec 6) (p : List Byte) (s : State) : (enqueue dest t p s).lnk = s.lnk := rfl
@[simp] theorem enqueue_phy (dest : BitVec 10) (t : BitVec 6) (p : List Byte) (s : State) : (enqueue dest t p s).phy = s.phy := rfl
@[simp] theorem enqueue_free (dest : BitVec 10) (t : BitVec 6) (p : List Byte) (s : State) : (enqueue dest t p s).free = s.free := rfl
@[simp] theorem enqueue_pending (dest : BitVec 10) (t : BitVec 6) (p : List Byte) (s : State) : (enqueue dest t p s).pending = s.pending := rfl

/-! ## measurePort -/

@[simp] theorem measurePort_bkd (m : PhyMeas) (s : State) : (measurePort m s).bkd = s.bkd := rfl
@[simp] theorem measurePort_fuse (m : PhyMeas) (s : State) : (measurePort m s).fuse = s.fuse := rfl
@[simp] theorem measurePort_straps (m : PhyMeas) (s : State) : (measurePort m s).straps = s.straps := rfl
@[simp] theorem measurePort_conf (m : PhyMeas) (s : State) : (measurePort m s).conf = s.conf := rfl
@[simp] theorem measurePort_banks (m : PhyMeas) (s : State) : (measurePort m s).banks = s.banks := rfl
@[simp] theorem measurePort_mem (m : PhyMeas) (s : State) : (measurePort m s).mem = s.mem := rfl
@[simp] theorem measurePort_save (m : PhyMeas) (s : State) : (measurePort m s).save = s.save := rfl
@[simp] theorem measurePort_log (m : PhyMeas) (s : State) : (measurePort m s).log = s.log := rfl
@[simp] theorem measurePort_eva (m : PhyMeas) (s : State) : (measurePort m s).eva = s.eva := rfl
@[simp] theorem measurePort_flags (m : PhyMeas) (s : State) : (measurePort m s).flags = s.flags := rfl
@[simp] theorem measurePort_clk (m : PhyMeas) (s : State) : (measurePort m s).clk = s.clk := rfl
@[simp] theorem measurePort_start (m : PhyMeas) (s : State) : (measurePort m s).start = s.start := rfl
@[simp] theorem measurePort_prq (m : PhyMeas) (s : State) : (measurePort m s).prq = s.prq := rfl
@[simp] theorem measurePort_power (m : PhyMeas) (s : State) : (measurePort m s).power = s.power := rfl
@[simp] theorem measurePort_afe (m : PhyMeas) (s : State) : (measurePort m s).afe = s.afe := rfl
@[simp] theorem measurePort_tiu (m : PhyMeas) (s : State) : (measurePort m s).tiu = s.tiu := rfl
@[simp] theorem measurePort_seq (m : PhyMeas) (s : State) : (measurePort m s).seq = s.seq := rfl
@[simp] theorem measurePort_fe (m : PhyMeas) (s : State) : (measurePort m s).fe = s.fe := rfl
@[simp] theorem measurePort_ag (m : PhyMeas) (s : State) : (measurePort m s).ag = s.ag := rfl
@[simp] theorem measurePort_temp (m : PhyMeas) (s : State) : (measurePort m s).temp = s.temp := rfl
@[simp] theorem measurePort_ee (m : PhyMeas) (s : State) : (measurePort m s).ee = s.ee := rfl
@[simp] theorem measurePort_hmc (m : PhyMeas) (s : State) : (measurePort m s).hmc = s.hmc := rfl
@[simp] theorem measurePort_img (m : PhyMeas) (s : State) : (measurePort m s).img = s.img := rfl
@[simp] theorem measurePort_snap (m : PhyMeas) (s : State) : (measurePort m s).snap = s.snap := rfl
@[simp] theorem measurePort_lnk (m : PhyMeas) (s : State) : (measurePort m s).lnk = s.lnk := rfl
@[simp] theorem measurePort_head (m : PhyMeas) (s : State) : (measurePort m s).head = s.head := rfl
@[simp] theorem measurePort_free (m : PhyMeas) (s : State) : (measurePort m s).free = s.free := rfl
@[simp] theorem measurePort_pending (m : PhyMeas) (s : State) : (measurePort m s).pending = s.pending := rfl

/-! ## A core reset keeps the backup domain but for its session and an entry to come -/

@[simp] theorem Bkd.cleared_time (b : Bkd) : b.cleared.time = b.time := rfl
@[simp] theorem Bkd.cleared_ledger (b : Bkd) : b.cleared.ledger = b.ledger := rfl
@[simp] theorem Bkd.cleared_alarm (b : Bkd) : b.cleared.alarm = b.alarm := rfl
@[simp] theorem Bkd.cleared_alarmSrc (b : Bkd) : b.cleared.alarmSrc = b.alarmSrc := rfl
@[simp] theorem Bkd.cleared_address (b : Bkd) : b.cleared.address = b.address := rfl
@[simp] theorem Bkd.cleared_strapCopy (b : Bkd) : b.cleared.strapCopy = b.strapCopy := rfl
@[simp] theorem Bkd.cleared_aliveS (b : Bkd) : b.cleared.aliveS = b.aliveS := rfl
@[simp] theorem Bkd.cleared_claimRec (b : Bkd) : b.cleared.claimRec = b.claimRec := rfl
@[simp] theorem Bkd.cleared_faultLatch (b : Bkd) : b.cleared.faultLatch = b.faultLatch := rfl
@[simp] theorem Bkd.cleared_timer (b : Bkd) : b.cleared.timer = b.timer := rfl
@[simp] theorem Bkd.cleared_timerOn (b : Bkd) : b.cleared.timerOn = b.timerOn := rfl
@[simp] theorem Bkd.cleared_alive (b : Bkd) : b.cleared.alive = b.alive := rfl
@[simp] theorem Bkd.cleared_compPpb (b : Bkd) : b.cleared.compPpb = b.compPpb := rfl
@[simp] theorem Bkd.cleared_commits (b : Bkd) : b.cleared.commits = b.commits.filter Commit.staged := rfl
@[simp] theorem Bkd.cleared_shadow (b : Bkd) : b.cleared.shadow = none := rfl

/-! ## coreClear keeps what the core domain does not hold -/

@[simp] theorem coreClear_straps (c : BitVec 3) (s : State) : (coreClear c s).straps = s.straps := rfl
@[simp] theorem coreClear_conf (c : BitVec 3) (s : State) : (coreClear c s).conf = s.conf := rfl
@[simp] theorem coreClear_banks (c : BitVec 3) (s : State) : (coreClear c s).banks = s.banks := rfl
@[simp] theorem coreClear_flags (c : BitVec 3) (s : State) : (coreClear c s).flags = s.flags := rfl
@[simp] theorem coreClear_phy (c : BitVec 3) (s : State) : (coreClear c s).phy = s.phy := rfl
@[simp] theorem coreClear_free (c : BitVec 3) (s : State) : (coreClear c s).free = s.free := rfl
@[simp] theorem coreClear_pending (c : BitVec 3) (s : State) : (coreClear c s).pending = s.pending := rfl

/-! ## Values of the changed fields -/

@[simp] theorem spend_free (s : State) : s.spend.free = s.free + 1 := rfl
@[simp] theorem request_commits (c : Commit) (s : State) : (request c s).bkd.commits = s.bkd.commits ++ [c] := rfl
@[simp] theorem request_time (c : Commit) (s : State) : (request c s).bkd.time = s.bkd.time := rfl
@[simp] theorem request_ledger (c : Commit) (s : State) : (request c s).bkd.ledger = s.bkd.ledger := rfl
@[simp] theorem request_now (c : Commit) (s : State) : (request c s).now = s.now := rfl

/-! ## Containers -/

@[simp] theorem Three.get_set {α : Type} (t : Three α) (p : Idx3) (x : α) : (t.set p x).get p = x := by cases p <;> rfl
theorem Three.get_set_ne {α : Type} (t : Three α) (p q : Idx3) (x : α) (h : q ≠ p) : (t.set p x).get q = t.get q := by
  cases p <;> cases q <;> first | rfl | exact absurd rfl h
@[simp] theorem Three.get_const {α : Type} (x : α) (p : Idx3) : (Three.const x).get p = x := by cases p <;> rfl
@[simp] theorem Two.get_set {α : Type} (t : Two α) (d : Dir) (x : α) : (t.set d x).get d = x := by cases d <;> rfl
theorem Two.get_set_ne {α : Type} (t : Two α) (d e : Dir) (x : α) (h : e ≠ d) : (t.set d x).get e = t.get e := by
  cases d <;> cases e <;> first | rfl | exact absurd rfl h

end Sys2Proof.Machine
end

