-- ==== Sys2Proof/Laws/Ops.lean ====
section
/-!
SUPPORT. What each shared operation of Machine/Ops.lean, Flags.lean and Bkd.lean can do: raising events, MEMC's requests, latched
flags, commits, votes, read sessions.
-/
namespace Sys2Proof.Machine

/-! ## MEMC's requests touch no content -/

theorem serve_eq (regs : List Byte) (m : Mem) :
    m.serve regs = { m with busy := (m.serve regs).busy, suspended := (m.serve regs).suspended, queue := (m.serve regs).queue } := by
  unfold Mem.serve
  split
  · rfl
  · split
    · rfl
    · rfl
    · rfl
    · split <;> rfl

theorem ask_eq (regs : List Byte) (r : MemReq) (m : Mem) :
    m.ask regs r =
      { m with busy := (m.ask regs r).busy, suspended := (m.ask regs r).suspended, queue := (m.ask regs r).queue } := by
  unfold Mem.ask
  dsimp only
  split
  · split
    · rw [serve_eq]
    · rfl
  · rw [serve_eq]

@[simp] theorem ask_cells (regs : List Byte) (r : MemReq) (m : Mem) : (m.ask regs r).cells = m.cells := by rw [ask_eq]
@[simp] theorem ask_present (regs : List Byte) (r : MemReq) (m : Mem) : (m.ask regs r).present = m.present := by rw [ask_eq]
@[simp] theorem ask_fitted (regs : List Byte) (r : MemReq) (m : Mem) : (m.ask regs r).fitted = m.fitted := by rw [ask_eq]
@[simp] theorem serve_cells (regs : List Byte) (m : Mem) : (m.serve regs).cells = m.cells := by rw [serve_eq]
@[simp] theorem serve_present (regs : List Byte) (m : Mem) : (m.serve regs).present = m.present := by rw [serve_eq]
@[simp] theorem serve_fitted (regs : List Byte) (m : Mem) : (m.serve regs).fitted = m.fitted := by rw [serve_eq]

/-! ## Votes -/

/-- What a change of the votes can do besides it: the idle timer, and the step from IDLE to RUN (R396). -/
theorem Power.revote_eq (old new : Power) :
    old.revote new = { new with idleTimer := (old.revote new).idleTimer, state := (old.revote new).state } ∧
    ((old.revote new).state = new.state ∨ (new.state = .idle ∧ (old.revote new).state = .run)) := by
  unfold Power.revote
  split
  · exact ⟨rfl, .inl rfl⟩
  · split
    · refine ⟨rfl, ?_⟩
      dsimp only
      split
      · rename_i h
        simp only [Bool.and_eq_true, decide_eq_true_eq] at h
        exact .inr ⟨h.1, rfl⟩
      · exact .inl rfl
    · split
      · exact ⟨rfl, .inl rfl⟩
      · exact ⟨rfl, .inl rfl⟩

/-- A vote changes that vote, the idle timer, and takes the device from IDLE to RUN; nothing else. -/
theorem voteFor_eq (c : Client) (v : BitVec 2) (s : State) :
    voteFor c v s = { s with power := { s.power.setVote c v with idleTimer := (voteFor c v s).power.idleTimer,
                                                                 state := (voteFor c v s).power.state } } ∧
    ((voteFor c v s).power.state = s.power.state ∨ (s.power.state = .idle ∧ (voteFor c v s).power.state = .run)) := by
  obtain ⟨h1, h2⟩ := Power.revote_eq s.power (s.power.setVote c v)
  have hs : (s.power.setVote c v).state = s.power.state := by cases c <;> rfl
  rw [hs] at h2
  refine ⟨?_, h2⟩
  show { s with power := s.power.revote (s.power.setVote c v) } = _
  rw [h1]
  rfl

@[simp] theorem voteFor_trans (c : Client) (v : BitVec 2) (s : State) : (voteFor c v s).power.trans = s.power.trans := by
  rw [(voteFor_eq c v s).1]; cases c <;> rfl

@[simp] theorem voteFor_vote (c : Client) (v : BitVec 2) (s : State) : (voteFor c v s).power.vote c = v := by
  rw [(voteFor_eq c v s).1]; cases c <;> rfl

theorem memVote_eq (s : State) :
    memVote s = { s with power := { s.power with hmc := (memVote s).power.hmc, idleTimer := (memVote s).power.idleTimer,
                                                 state := (memVote s).power.state } } ∧
    ((memVote s).power.state = s.power.state ∨ (s.power.state = .idle ∧ (memVote s).power.state = .run)) := by
  unfold memVote
  split
  · exact ⟨rfl, .inl rfl⟩
  · obtain ⟨h1, h2⟩ := voteFor_eq .hmc
      (if s.mem.busy.isSome || !s.mem.suspended.isEmpty || !s.mem.queue.isEmpty then 0 else 2) s
    refine ⟨?_, h2⟩
    conv => lhs; rw [h1]
    conv => rhs; rw [h1]
    rfl

/-! ## Events only -/

theorem LogsOnly.refl (s : State) : LogsOnly s s := ⟨rfl, .inl rfl⟩

theorem LogsOnly.trans {s t u : State} (h : LogsOnly s t) (k : LogsOnly t u) : LogsOnly s u := by
  refine ⟨?_, ?_⟩
  · rw [k.1, h.1]
  · rcases h.2 with h2 | ⟨h2, h3⟩ <;> rcases k.2 with k2 | ⟨k2, k3⟩
    · exact .inl (k2.trans h2)
    · exact .inr ⟨h2 ▸ k2, k3⟩
    · exact .inr ⟨h2, k2.trans h3⟩
    · rw [h3] at k2; cases k2

theorem LogsOnly.clk {s t : State} (h : LogsOnly s t) : t.clk = s.clk := by rw [h.1]

theorem LogsOnly.awake {s t : State} (h : LogsOnly s t) : t.awake = s.awake := by
  unfold State.awake
  rw [h.clk]
  rcases h.2 with h2 | ⟨h2, h3⟩
  · rw [h2]
  · rw [h2, h3]; rfl

theorem LogsOnly.now {s t : State} (h : LogsOnly s t) : t.now = s.now := by rw [h.1]; rfl
theorem LogsOnly.sameMemory {s t : State} (h : LogsOnly s t) : SameMemory s t := by intro a; rw [h.1]; rfl
theorem LogsOnly.memoryInv {s t : State} (h : LogsOnly s t) (k : MemoryInv s) : MemoryInv t := by
  unfold MemoryInv at *; rw [h.1]; exact k

/-- A state that only logs agrees with the first in every part but the arbiter, the memory controller and the votes. -/
theorem LogsOnly.parts {s t : State} (h : LogsOnly s t) :
    t.bkd = s.bkd ∧ t.fuse = s.fuse ∧ t.straps = s.straps ∧ t.conf = s.conf ∧ t.banks = s.banks ∧ t.save = s.save ∧ t.log = s.log ∧
    t.flags = s.flags ∧ t.clk = s.clk ∧ t.start = s.start ∧ t.prq = s.prq ∧ t.afe = s.afe ∧ t.tiu = s.tiu ∧
    t.seq = s.seq ∧ t.fe = s.fe ∧ t.ag = s.ag ∧ t.temp = s.temp ∧ t.ee = s.ee ∧ t.hmc = s.hmc ∧ t.img = s.img ∧ t.snap = s.snap ∧
    t.lnk = s.lnk ∧ t.phy = s.phy ∧ t.head = s.head ∧ t.free = s.free ∧ t.pending = s.pending := by
  rw [h.1]; simp

/-- The management core's vote given or taken is no more than logging does. -/
theorem memVote_logsOnly (s : State) : LogsOnly s (memVote s) := by
  obtain ⟨h1, h2⟩ := memVote_eq s
  refine ⟨?_, h2⟩
  conv => lhs; rw [h1]
  rw [show (memVote s).eva = s.eva by rw [h1], show (memVote s).mem = s.mem by rw [h1]]

theorem voteHmc_logsOnly (v : BitVec 2) (s : State) : LogsOnly s (voteFor .hmc v s) := by
  obtain ⟨h1, h2⟩ := voteFor_eq .hmc v s
  refine ⟨?_, h2⟩
  conv => lhs; rw [h1]
  conv => rhs; rw [h1]
  rfl

theorem begins_logsOnly (s : State) : LogsOnly s (begins s) := ⟨rfl, .inl rfl⟩

theorem ask_logsOnly (r : MemReq) (s : State) : LogsOnly s { s with mem := s.mem.ask s.snap.regs r } := by
  refine ⟨?_, .inl rfl⟩
  conv => lhs; rw [ask_eq]

theorem requestMem_logsOnly (r : MemReq) (s : State) : LogsOnly s (requestMem r s) :=
  ((ask_logsOnly r s).trans (begins_logsOnly _)).trans (memVote_logsOnly _)

theorem workMoment_logsOnly (s : State) : LogsOnly s (workMoment s) := by
  unfold workMoment
  split
  · exact (voteHmc_logsOnly 0 s).trans (memVote_logsOnly _)
  · exact .refl s

theorem logWhenHalf_logsOnly (s : State) : LogsOnly s (logWhenHalf s) := by
  unfold logWhenHalf
  split
  · exact requestMem_logsOnly _ s
  · exact .refl s

@[simp] theorem memVote_eva (s : State) : (memVote s).eva = s.eva := by rw [(memVote_eq s).1]

@[simp] theorem requestMem_eva (r : MemReq) (s : State) : (requestMem r s).eva = s.eva := by simp [requestMem, begins]

@[simp] theorem workMoment_eva (s : State) : (workMoment s).eva = s.eva := by unfold workMoment; split <;> simp

@[simp] theorem logWhenHalf_eva (s : State) : (logWhenHalf s).eva = s.eva := by
  unfold logWhenHalf; split
  · exact requestMem_eva _ s
  · rfl

theorem LogsOnly.of_eva {s t : State} {v : Eva} (h : LogsOnly { s with eva := v } t) : LogsOnly s t :=
  ⟨h.1, h.2⟩

/-- Raising one event: granted now or waiting for the wake, and nothing else. -/
theorem raise_logs (code : BitVec 16) (args : List (BitVec 32)) (s : State) : Logs [⟨code, args⟩] s (raise code args s) := by
  unfold raise
  split
  · rename_i h
    exact ⟨((logWhenHalf_logsOnly _).trans (workMoment_logsOnly _)).of_eva, by simp [State.arrivals, h]⟩
  · rename_i h
    exact ⟨⟨rfl, .inl rfl⟩, by simp [State.arrivals, h]⟩

theorem Logs.refl (s : State) : Logs [] s s := ⟨.refl s, rfl⟩

theorem Logs.trans {es fs : List Event} {s t u : State} (h : Logs es s t) (k : Logs fs t u) : Logs (es ++ fs) s u := by
  refine ⟨h.1.trans k.1, ?_⟩
  rw [k.2, State.arrivals, State.arrivals, List.foldl_append, h.1.awake, h.1.now, h.2]
  rfl

/-- What raising leaves alone, one lemma per part. -/
@[simp] theorem raise_bkd (c : BitVec 16) (a : List (BitVec 32)) (s : State) : (raise c a s).bkd = s.bkd := (raise_logs c a s).1.parts.1
@[simp] theorem raise_fuse (c : BitVec 16) (a : List (BitVec 32)) (s : State) : (raise c a s).fuse = s.fuse := by rw [(raise_logs c a s).1.1]
@[simp] theorem raise_straps (c : BitVec 16) (a : List (BitVec 32)) (s : State) : (raise c a s).straps = s.straps := by rw [(raise_logs c a s).1.1]
@[simp] theorem raise_conf (c : BitVec 16) (a : List (BitVec 32)) (s : State) : (raise c a s).conf = s.conf := by rw [(raise_logs c a s).1.1]
@[simp] theorem raise_banks (c : BitVec 16) (a : List (BitVec 32)) (s : State) : (raise c a s).banks = s.banks := by rw [(raise_logs c a s).1.1]
@[simp] theorem raise_save (c : BitVec 16) (a : List (BitVec 32)) (s : State) : (raise c a s).save = s.save := by rw [(raise_logs c a s).1.1]
@[simp] theorem raise_log (c : BitVec 16) (a : List (BitVec 32)) (s : State) : (raise c a s).log = s.log := by rw [(raise_logs c a s).1.1]
@[simp] theorem raise_flags (c : BitVec 16) (a : List (BitVec 32)) (s : State) : (raise c a s).flags = s.flags := by rw [(raise_logs c a s).1.1]
@[simp] theorem raise_clk (c : BitVec 16) (a : List (BitVec 32)) (s : State) : (raise c a s).clk = s.clk := by rw [(raise_logs c a s).1.1]
@[simp] theorem raise_start (c : BitVec 16) (a : List (BitVec 32)) (s : State) : (raise c a s).start = s.start := by rw [(raise_logs c a s).1.1]
@[simp] theorem raise_prq (c : BitVec 16) (a : List (BitVec 32)) (s : State) : (raise c a s).prq = s.prq := by rw [(raise_logs c a s).1.1]
@[simp] theorem raise_afe (c : BitVec 16) (a : List (BitVec 32)) (s : State) : (raise c a s).afe = s.afe := by rw [(raise_logs c a s).1.1]
@[simp] theorem raise_tiu (c : BitVec 16) (a : List (BitVec 32)) (s : State) : (raise c a s).tiu = s.tiu := by rw [(raise_logs c a s).1.1]
@[simp] theorem raise_seq (c : BitVec 16) (a : List (BitVec 32)) (s : State) : (raise c a s).seq = s.seq := by rw [(raise_logs c a s).1.1]
@[simp] theorem raise_fe (c : BitVec 16) (a : List (BitVec 32)) (s : State) : (raise c a s).fe = s.fe := by rw [(raise_logs c a s).1.1]
@[simp] theorem raise_ag (c : BitVec 16) (a : List (BitVec 32)) (s : State) : (raise c a s).ag = s.ag := by rw [(raise_logs c a s).1.1]
@[simp] theorem raise_temp (c : BitVec 16) (a : List (BitVec 32)) (s : State) : (raise c a s).temp = s.temp := by rw [(raise_logs c a s).1.1]
@[simp] theorem raise_ee (c : BitVec 16) (a : List (BitVec 32)) (s : State) : (raise c a s).ee = s.ee := by rw [(raise_logs c a s).1.1]
@[simp] theorem raise_hmc (c : BitVec 16) (a : List (BitVec 32)) (s : State) : (raise c a s).hmc = s.hmc := by rw [(raise_logs c a s).1.1]
@[simp] theorem raise_img (c : BitVec 16) (a : List (BitVec 32)) (s : State) : (raise c a s).img = s.img := by rw [(raise_logs c a s).1.1]
@[simp] theorem raise_snap (c : BitVec 16) (a : List (BitVec 32)) (s : State) : (raise c a s).snap = s.snap := by rw [(raise_logs c a s).1.1]
@[simp] theorem raise_lnk (c : BitVec 16) (a : List (BitVec 32)) (s : State) : (raise c a s).lnk = s.lnk := by rw [(raise_logs c a s).1.1]
@[simp] theorem raise_phy (c : BitVec 16) (a : List (BitVec 32)) (s : State) : (raise c a s).phy = s.phy := by rw [(raise_logs c a s).1.1]
@[simp] theorem raise_head (c : BitVec 16) (a : List (BitVec 32)) (s : State) : (raise c a s).head = s.head := by rw [(raise_logs c a s).1.1]
@[simp] theorem raise_free (c : BitVec 16) (a : List (BitVec 32)) (s : State) : (raise c a s).free = s.free := by rw [(raise_logs c a s).1.1]
@[simp] theorem raise_pending (c : BitVec 16) (a : List (BitVec 32)) (s : State) : (raise c a s).pending = s.pending := by rw [(raise_logs c a s).1.1]
@[simp] theorem raise_cells (c : BitVec 16) (a : List (BitVec 32)) (s : State) : (raise c a s).mem.cells = s.mem.cells := by rw [(raise_logs c a s).1.1]
@[simp] theorem raise_now (c : BitVec 16) (a : List (BitVec 32)) (s : State) : (raise c a s).now = s.now := (raise_logs c a s).1.now
@[simp] theorem raise_awake (c : BitVec 16) (a : List (BitVec 32)) (s : State) : (raise c a s).awake = s.awake := (raise_logs c a s).1.awake

/-! ## The event queue -/

/-- Records enter the queue whole or not at all (R501, R502). -/
theorem enqueue_cases (v : Eva) (q : BitVec 32) (rs : List Record) :
    (v.queue.length + rs.length ≤ 64 ∧ v.enqueue q rs = { v with queue := v.queue ++ rs }) ∨
    (64 < v.queue.length + rs.length ∧
      v.enqueue q rs = { v with dropped := v.dropped + 1, firstDropped := if v.dropped = 0 then q else v.firstDropped }) := by
  unfold Eva.enqueue
  split
  · left; exact ⟨by assumption, rfl⟩
  · right; exact ⟨by omega, rfl⟩

theorem enqueue_bound (v : Eva) (q : BitVec 32) (rs : List Record) (h : v.queue.length ≤ 64) : (v.enqueue q rs).queue.length ≤ 64 := by
  rcases enqueue_cases v q rs with ⟨hl, he⟩ | ⟨_, he⟩ <;> rw [he] <;> simp <;> omega

@[simp] theorem enqueue_held (v : Eva) (q : BitVec 32) (rs : List Record) : (v.enqueue q rs).held = v.held := by
  rcases enqueue_cases v q rs with ⟨_, he⟩ | ⟨_, he⟩ <;> rw [he]

/-- The bounds of the queue and of a start's held events. -/
def Eva.bounded (v : Eva) : Prop := v.queue.length ≤ 64 ∧ v.held.length ≤ 16

theorem grant_bounded (v : Eva) (d : BitVec 32) (e : Event) (h : v.bounded) : (v.grant d e).bounded := by
  unfold Eva.grant
  split
  · exact ⟨enqueue_bound v _ _ h.1, by simpa using h.2⟩
  · split
    · split
      · exact ⟨h.1, by simp; omega⟩
      · exact h
    · dsimp only
      split
      · exact ⟨h.1, by simp; omega⟩
      · exact h

theorem postpone_bounded (v : Eva) (e : Event) (h : v.bounded) : (v.postpone e).bounded := h

theorem arrivals_bounded (s : State) (es : List Event) (h : s.eva.bounded) : (s.arrivals es).bounded := by
  unfold State.arrivals
  generalize s.eva = v at h
  induction es generalizing v with
  | nil => exact h
  | cons e es ih =>
    refine ih _ ?_
    split
    · exact grant_bounded v _ e h
    · exact postpone_bounded v e h

theorem raise_bounded (c : BitVec 16) (a : List (BitVec 32)) (s : State) (h : s.eva.bounded) : (raise c a s).eva.bounded := by
  rw [(raise_logs c a s).2]; exact arrivals_bounded s _ h

theorem grantWaiting_bounded (v : Eva) (d : BitVec 32) (h : v.bounded) : (v.grantWaiting d).bounded := by
  unfold Eva.grantWaiting
  generalize v.waiting = es
  have h0 : ({ v with waiting := [] } : Eva).bounded := h
  generalize ({ v with waiting := [] } : Eva) = w at h0
  induction es generalizing w with
  | nil => exact h0
  | cons e es ih => exact ih _ (grant_bounded w d e h0)

/-! ## Sessions, flags and the ledger -/

/-- A timer set anew changes nothing else. -/
theorem retime_eq (s : State) : retime s = { s with power := { s.power with idleTimer := (retime s).power.idleTimer } } := by
  unfold retime; split <;> rfl

/-- The presence check counts in its own counters and in the model's counter of free values, and in nothing else. -/
theorem countPresence_eq (s : State) : countPresence s =
    { s with clk := { s.clk with presence := (countPresence s).clk.presence }, free := (countPresence s).free } := by
  unfold countPresence; split <;> rfl

/-- Where no presence check runs, an LF period leaves the clocks as they are. -/
theorem countPresence_idle (s : State) (h : s.clk.checks = false) : countPresence s = s := by simp [countPresence, h]

/-- One flag's occurrence changes that flag and no other. -/
theorem occur_get (k j : Nat) (s : State) (h : j ≠ k) :
    (occur k s).flags.getD j ⟨false, 0, 0⟩ = s.flags.getD j ⟨false, 0, 0⟩ := by
  unfold occur
  simp [List.getD_eq_getElem?_getD, Ne.symm h]

/-- A released session never leaves a shadow behind its last reader. -/
theorem releaseSession_last (s : State) (h : s.bkd.readers ≤ 1) : (releaseSession s).bkd.shadow = none := by
  simp [releaseSession, h]

/-- The staged ledger that the core reads is the one it last wrote. -/
theorem stagedLedger_append (cs : List Commit) (l k : Ledger) : stagedLedger (cs ++ [.ledger l]) k = l := by
  induction cs generalizing k with
  | nil => rfl
  | cons c cs ih => cases c <;> exact ih _

@[simp] theorem editLedger_ledger (f : Ledger → Ledger) (s : State) : (editLedger f s).ledger = f s.ledger :=
  stagedLedger_append s.bkd.commits (f s.ledger) s.bkd.ledger

/-! ## Roots -/

/-- The bits below `k` complete a root that is right above them. -/
theorem rootFrom_spec (n : Nat) : ∀ (k r : Nat), r * r ≤ n → n < (r + 2 ^ k) * (r + 2 ^ k) →
    rootFrom n k r * rootFrom n k r ≤ n ∧ n < (rootFrom n k r + 1) * (rootFrom n k r + 1) := by
  intro k
  induction k with
  | zero => intro r h1 h2; exact ⟨h1, by simpa [rootFrom] using h2⟩
  | succ k ih =>
    intro r h1 h2
    unfold rootFrom
    split
    · rename_i h
      refine ih _ h ?_
      have : r + 2 ^ k + 2 ^ k = r + 2 ^ (k + 1) := by rw [Nat.pow_succ]; omega
      rwa [this]
    · rename_i h
      exact ih _ h1 (by omega)

/-- `rootOf` is the root rounded down. -/
theorem rootOf_spec (n : Nat) : rootOf n * rootOf n ≤ n ∧ n < (rootOf n + 1) * (rootOf n + 1) := by
  apply rootFrom_spec n _ 0 (by simp)
  have h : n < 2 ^ (n.log2 + 1) := Nat.lt_log2_self
  have h2 : 2 ^ (n.log2 + 1) ≤ 2 ^ (n.log2 / 2 + 1) * 2 ^ (n.log2 / 2 + 1) := by
    rw [← Nat.pow_add]
    exact Nat.pow_le_pow_right (by omega) (by omega)
  simpa using Nat.lt_of_lt_of_le h h2

end Sys2Proof.Machine
end

