-- ==== Sys2Proof/WellFormed.lean ====
section
/-!
DEFINITION. Well-formed commands: the lengths and ranges that the spec gives the operands (log entry 10). The meanings are total
and do not rest on these checks; a claim may take them as a premise.
-/
namespace Sys2Proof

/-- R230: ring A's counter is 32 bits wide, and ring B never counts more than 110 periods. -/
def VernierCount.wf (v : VernierCount) : Bool := decide (v.k < 2 ^ 32) && decide (v.n ≤ 110)

/-- R216 to R218, with every averaging `avg` times as long (Table 7.9: once, or four times as S10's alternative): 16 codes at one
and at two periods, 32 INL points of 32 stimuli, 8 cross-check stimuli. -/
def SlotRaw.wf (avg : Nat) (r : SlotRaw) : Bool :=
  r.codes1.length == 16 * avg && r.codes2.length == 16 * avg && r.inl.length == 32 &&
  r.inl.all (fun xs => xs.length == 32 * avg && xs.all (fun x => x.delay.wf)) && r.cross.length == 8 * avg &&
  r.cross.all (fun x => x.delay.wf) && r.offset.wf

/-- R232: 16 measured intervals. -/
def SelfTest.wf (t : SelfTest) : Bool := t.intervals.length == 16 && t.intervals.all VernierCount.wf

/-- R137: each fuse pass reads words 0 to 24. R72: eight samples a pad. R75: six CFG pads. S10: 24 slots, each averaging made
once or, as the alternative, four times. -/
def StartIn.wf (i : StartIn) : Bool :=
  i.ledgerFlips.length == 3 && i.fuseFlips1.length == 25 && i.fuseFlips2.length == 25 && i.fuseFlips3.length == 25 &&
  i.pulseA.length == 8 && i.pulseB.length == 8 && i.strapTest.length == 8 && i.cfg.length == 6 &&
  i.selfTest.wf && i.cal.length == 24 && (i.cal.all (SlotRaw.wf 1) || i.cal.all (SlotRaw.wf 4))

/-- A frame's payload is 0 to 255 bytes: the length field has eight bits (Table 16.1). -/
def Frame.wf (f : Frame) : Bool := decide (f.payload.length ≤ 255)

/-- The jobs' results: a calibration of all 24 slots, or none of it where the job was cut short. -/
def JobResult.wf (r : JobResult) : Bool :=
  r.selfTest.wf && (r.cal.length == 24 || r.cal.length == 0) && r.cal.all (SlotRaw.wf 1)

/-- The operand checks of a command. -/
def Instr.wf : Instr → Bool
  | .corePorRelease i => i.wf
  | .resetNReleased i => i.wf
  | .restartDelayExpiry i => i.wf
  | .vernierSelfTestTimer t => t.wf
  | .gapJobComplete r => r.wf
  | .unservedFrame _ f => f.wf
  | .ping f => f.wf
  | .identify f => f.wf
  | .read f => f.wf
  | .status f => f.wf
  | .clear f => f.wf
  | .sweep f => f.wf
  | .enumerate f => f.wf
  | .noticeWindow f => f.wf
  | .assign f => f.wf
  | .timeSet f => f.wf
  | .timeRead f => f.wf
  | .alarmSet f => f.wf
  | .state f => f.wf
  | .blockReset f => f.wf
  | .imageOpen f => f.wf
  | .imageBlock f => f.wf
  | .imageCommit f => f.wf
  | .imageAbort f => f.wf
  | .logRead f => f.wf
  | .claim f _ _ => f.wf
  | .responseReceived _ f => f.wf
  | .forwardedRequest _ f => f.wf
  | .sndUd _ _ secondary => secondary.length == 8
  | .backupPowerOn _ | .mainPowerOn | .vcoreBrownOut | .resetNAsserted _ _ | .watchdogReset | .clockReadyTimeout _
  | .stepTimeLimit _ | .referenceDeclaredPresent | .clockSwitchToReference | .referenceDeclaredAbsent
  | .referenceWakeLimit _ _ | .crystalGood | .crystalStopped | .cycleTick | .voteRaised _ _ | .idleTimerExpiry
  | .lossWindowEnd _ _ | .wakeFromSleep | .deepSleepWakeStrobe _ | .vcoreSettled | .firmwareReloadComplete | .prqPoll _
  | .prqAnswerTimeout | .wakeRetryTimer | .launch _ | .secondLaunch _ | .driveFault _ | .stopWindowOpen _ _ _
  | .thresholdFiring _ _ _ | .zeroCrossing _ _ _ _ _ | .stopWindowClose _ _ _ | .conversionDone _ _ _ _
  | .conversionsComplete _ _ | .repeatLaunch _ | .holdExpiry _ | .gainCalibrationDue | .inlCalibrationDue | .loanCutoff
  | .temperatureSetDue | .dischargeStop _ _ _ _ | .dischargeTimeLimit | .sweepDue | .sweepLaunch _ _ | .agateAnalysisComplete
  | .deferredTimeSetCommit | .tstEdge _ _ _ | .testTimeout | .pulseHighEnd _ | .pulseLowEnd _ | .managementTick _
  | .scheduledSaveDue | .memoryOperationComplete | .memoryOperationTimeout | .hourClose _ | .powerFailWarning
  | .powerFailCycleLimit | .powerFailClear | .batteryLow | .rtcSecond _ | .deviceSecond _ _ | .freezeEdge | .sessionLimit
  | .bkdCommit | .wakeInput _ | .eventEdge _ | .matcherHit _ _ | .parkedServiceTimeout | .insertionRequest _ | .insertionGapFound
  | .removal | .removalPassOpen | .ldieSupplyLoss | .tailFlagChange _ | .downstreamShort _ | .isolationRetry _
  | .headLineFault | .headLineRetry | .lineRampComplete | .repeaterDirectionTaken _ _ | .repeaterIdleRelease
  | .blockResetAssert | .imageEraseComplete | .imageSessionTimeout | .responseCacheExpiry | .turnUnitSend | .appendUnit _
  | .trainDisarmTimeout | .trainEnd _ | .trainTimeout | .headRelayUnit _ _ | .responseTimeout | .headSweepTimer | .sndNke _
  | .reqUd2 _ _ | .mbusMemberReadComplete | .pwronHigh | .batteryLowRearm | .vcoreStrobeTimeout | .basaltReferenceLimit _ => true

end Sys2Proof
end

