-- ==== Sys2Proof/Laws/PerInstr.lean ====
section
/-!
SUPPORT. Statements for every command as syntax, one lemma per constructor (LAWS.json, family Operands).
-/
namespace Sys2Proof.Laws.Operands

/-- The frame that a command carries, if it carries one. -/
def frameOf : Instr → Option Frame
  | .unservedFrame _ f => some f
  | .ping f => some f
  | .identify f => some f
  | .read f => some f
  | .status f => some f
  | .clear f => some f
  | .sweep f => some f
  | .enumerate f => some f
  | .noticeWindow f => some f
  | .assign f => some f
  | .timeSet f => some f
  | .timeRead f => some f
  | .alarmSet f => some f
  | .state f => some f
  | .blockReset f => some f
  | .imageOpen f => some f
  | .imageBlock f => some f
  | .imageCommit f => some f
  | .imageAbort f => some f
  | .logRead f => some f
  | .claim f _ _ => some f
  | .responseReceived _ f => some f
  | .forwardedRequest _ f => some f
  | .backupPowerOn _ | .mainPowerOn | .corePorRelease _ | .vcoreBrownOut | .resetNAsserted _ _ | .resetNReleased _
  | .watchdogReset | .clockReadyTimeout _ | .stepTimeLimit _ | .restartDelayExpiry _ | .referenceDeclaredPresent
  | .clockSwitchToReference | .referenceDeclaredAbsent | .referenceWakeLimit _ _ | .crystalGood | .crystalStopped
  | .cycleTick | .voteRaised _ _ | .idleTimerExpiry | .lossWindowEnd _ _ | .wakeFromSleep | .deepSleepWakeStrobe _
  | .vcoreSettled | .firmwareReloadComplete | .prqPoll _ | .prqAnswerTimeout | .wakeRetryTimer | .launch _
  | .secondLaunch _ | .driveFault _ | .stopWindowOpen _ _ _ | .thresholdFiring _ _ _ | .zeroCrossing _ _ _ _ _
  | .stopWindowClose _ _ _ | .conversionDone _ _ _ _ | .conversionsComplete _ _ | .repeatLaunch _ | .holdExpiry _
  | .gapJobComplete _ | .gainCalibrationDue | .inlCalibrationDue | .loanCutoff | .temperatureSetDue
  | .dischargeStop _ _ _ _ | .dischargeTimeLimit | .sweepDue | .sweepLaunch _ _ | .agateAnalysisComplete
  | .deferredTimeSetCommit | .tstEdge _ _ _ | .testTimeout | .vernierSelfTestTimer _ | .pulseHighEnd _
  | .pulseLowEnd _ | .managementTick _ | .scheduledSaveDue | .memoryOperationComplete | .memoryOperationTimeout
  | .hourClose _ | .powerFailWarning | .powerFailCycleLimit | .powerFailClear | .batteryLow | .rtcSecond _
  | .deviceSecond _ _ | .freezeEdge | .sessionLimit | .bkdCommit | .wakeInput _ | .eventEdge _ | .matcherHit _ _
  | .parkedServiceTimeout | .insertionRequest _ | .insertionGapFound | .removal | .removalPassOpen | .ldieSupplyLoss
  | .tailFlagChange _ | .downstreamShort _ | .isolationRetry _ | .headLineFault | .headLineRetry | .lineRampComplete
  | .repeaterDirectionTaken _ _ | .repeaterIdleRelease | .blockResetAssert | .imageEraseComplete
  | .imageSessionTimeout | .responseCacheExpiry | .turnUnitSend | .appendUnit _ | .trainDisarmTimeout | .trainEnd _
  | .trainTimeout | .headRelayUnit _ _ | .responseTimeout | .headSweepTimer | .sndNke _ | .sndUd _ _ _ | .reqUd2 _ _
  | .mbusMemberReadComplete | .pwronHigh | .batteryLowRearm | .vcoreStrobeTimeout | .basaltReferenceLimit _ => none

/-- A well-formed command's frame has a payload that its length field can give (Table 16.1). -/
def Statement (i : Instr) : Prop := i.wf = true → ∀ f, frameOf i = some f → f.payload.length ≤ 255

/-- A frame's check says what the statement asks. -/
theorem frame_fits {f g : Frame} (h : f.wf = true) (e : some f = some g) : g.payload.length ≤ 255 := by
  cases e; exact of_decide_eq_true h

theorem backupPowerOn (recovers : Bool) : Statement (.backupPowerOn recovers) := fun _ _ e => nomatch e
theorem mainPowerOn : Statement (.mainPowerOn) := fun _ _ e => nomatch e
theorem corePorRelease (d : StartIn) : Statement (.corePorRelease d) := fun _ _ e => nomatch e
theorem vcoreBrownOut : Statement (.vcoreBrownOut) := fun _ _ e => nomatch e
theorem resetNAsserted (w : PulseWidth) (supply : PinSupply) : Statement (.resetNAsserted w supply) := fun _ _ e => nomatch e
theorem resetNReleased (d : StartIn) : Statement (.resetNReleased d) := fun _ _ e => nomatch e
theorem watchdogReset : Statement (.watchdogReset) := fun _ _ e => nomatch e
theorem clockReadyTimeout (resetId : Byte) : Statement (.clockReadyTimeout resetId) := fun _ _ e => nomatch e
theorem stepTimeLimit (c : RefCheck) : Statement (.stepTimeLimit c) := fun _ _ e => nomatch e
theorem restartDelayExpiry (d : StartIn) : Statement (.restartDelayExpiry d) := fun _ _ e => nomatch e
theorem referenceDeclaredPresent : Statement (.referenceDeclaredPresent) := fun _ _ e => nomatch e
theorem clockSwitchToReference : Statement (.clockSwitchToReference) := fun _ _ e => nomatch e
theorem referenceDeclaredAbsent : Statement (.referenceDeclaredAbsent) := fun _ _ e => nomatch e
theorem referenceWakeLimit (c : RefCheck) (m : PhyMeas) : Statement (.referenceWakeLimit c m) := fun _ _ e => nomatch e
theorem crystalGood : Statement (.crystalGood) := fun _ _ e => nomatch e
theorem crystalStopped : Statement (.crystalStopped) := fun _ _ e => nomatch e
theorem cycleTick : Statement (.cycleTick) := fun _ _ e => nomatch e
theorem voteRaised (c : Client) (run : Bool) : Statement (.voteRaised c run) := fun _ _ e => nomatch e
theorem idleTimerExpiry : Statement (.idleTimerExpiry) := fun _ _ e => nomatch e
theorem lossWindowEnd (eventHigh vbat27 : Bool) : Statement (.lossWindowEnd eventHigh vbat27) := fun _ _ e => nomatch e
theorem wakeFromSleep : Statement (.wakeFromSleep) := fun _ _ e => nomatch e
theorem deepSleepWakeStrobe (w : DeepWake) : Statement (.deepSleepWakeStrobe w) := fun _ _ e => nomatch e
theorem vcoreSettled : Statement (.vcoreSettled) := fun _ _ e => nomatch e
theorem firmwareReloadComplete : Statement (.firmwareReloadComplete) := fun _ _ e => nomatch e
theorem prqPoll (status : Byte) : Statement (.prqPoll status) := fun _ _ e => nomatch e
theorem prqAnswerTimeout : Statement (.prqAnswerTimeout) := fun _ _ e => nomatch e
theorem wakeRetryTimer : Statement (.wakeRetryTimer) := fun _ _ e => nomatch e
theorem launch (coarse : BitVec 24) : Statement (.launch coarse) := fun _ _ e => nomatch e
theorem secondLaunch (coarse : BitVec 24) : Statement (.secondLaunch coarse) := fun _ _ e => nomatch e
theorem driveFault (pad : XdPad) : Statement (.driveFault pad) := fun _ _ e => nomatch e
theorem stopWindowOpen (p : Idx3) (d : Dir) (above : Bool) : Statement (.stopWindowOpen p d above) := fun _ _ e => nomatch e
theorem thresholdFiring (p : Idx3) (d : Dir) (q : Nat) : Statement (.thresholdFiring p d q) := fun _ _ e => nomatch e
theorem zeroCrossing (p : Idx3) (d : Dir) (q : Nat) (falling : Bool) (peak : Byte) : Statement (.zeroCrossing p d q falling peak) := fun _ _ e => nomatch e
theorem stopWindowClose (p : Idx3) (d : Dir) (peak : Byte) : Statement (.stopWindowClose p d peak) := fun _ _ e => nomatch e
theorem conversionDone (slot : Fin 24) (code : BitVec 16) (coarseEnd : BitVec 24) (chargeOk : Bool) : Statement (.conversionDone slot code coarseEnd chargeOk) := fun _ _ e => nomatch e
theorem conversionsComplete (lenUs : Nat) (m : PhyMeas) : Statement (.conversionsComplete lenUs m) := fun _ _ e => nomatch e
theorem repeatLaunch (coarse : BitVec 24) : Statement (.repeatLaunch coarse) := fun _ _ e => nomatch e
theorem holdExpiry (p : Idx3) : Statement (.holdExpiry p) := fun _ _ e => nomatch e
theorem gapJobComplete (r : JobResult) : Statement (.gapJobComplete r) := fun _ _ e => nomatch e
theorem gainCalibrationDue : Statement (.gainCalibrationDue) := fun _ _ e => nomatch e
theorem inlCalibrationDue : Statement (.inlCalibrationDue) := fun _ _ e => nomatch e
theorem loanCutoff : Statement (.loanCutoff) := fun _ _ e => nomatch e
theorem temperatureSetDue : Statement (.temperatureSetDue) := fun _ _ e => nomatch e
theorem dischargeStop (startCoarse : BitVec 24) (code : BitVec 16) (coarseEnd : BitVec 24) (chargeOk : Bool) : Statement (.dischargeStop startCoarse code coarseEnd chargeOk) := fun _ _ e => nomatch e
theorem dischargeTimeLimit : Statement (.dischargeTimeLimit) := fun _ _ e => nomatch e
theorem sweepDue : Statement (.sweepDue) := fun _ _ e => nomatch e
theorem sweepLaunch (coarse : BitVec 24) (timer : BitVec 32) : Statement (.sweepLaunch coarse timer) := fun _ _ e => nomatch e
theorem agateAnalysisComplete : Statement (.agateAnalysisComplete) := fun _ _ e => nomatch e
theorem deferredTimeSetCommit : Statement (.deferredTimeSetCommit) := fun _ _ e => nomatch e
theorem tstEdge (start stop : Bool) (seen : TstSeen) : Statement (.tstEdge start stop seen) := fun _ _ e => nomatch e
theorem testTimeout : Statement (.testTimeout) := fun _ _ e => nomatch e
theorem vernierSelfTestTimer (t : SelfTest) : Statement (.vernierSelfTestTimer t) := fun _ _ e => nomatch e
theorem pulseHighEnd (padB : Bool) : Statement (.pulseHighEnd padB) := fun _ _ e => nomatch e
theorem pulseLowEnd (padB : Bool) : Statement (.pulseLowEnd padB) := fun _ _ e => nomatch e
theorem managementTick (r : Sensors) : Statement (.managementTick r) := fun _ _ e => nomatch e
theorem scheduledSaveDue : Statement (.scheduledSaveDue) := fun _ _ e => nomatch e
theorem memoryOperationComplete : Statement (.memoryOperationComplete) := fun _ _ e => nomatch e
theorem memoryOperationTimeout : Statement (.memoryOperationTimeout) := fun _ _ e => nomatch e
theorem hourClose (h : HourOf) : Statement (.hourClose h) := fun _ _ e => nomatch e
theorem powerFailWarning : Statement (.powerFailWarning) := fun _ _ e => nomatch e
theorem powerFailCycleLimit : Statement (.powerFailCycleLimit) := fun _ _ e => nomatch e
theorem powerFailClear : Statement (.powerFailClear) := fun _ _ e => nomatch e
theorem batteryLow : Statement (.batteryLow) := fun _ _ e => nomatch e
theorem rtcSecond (vbat27 : Bool) : Statement (.rtcSecond vbat27) := fun _ _ e => nomatch e
theorem deviceSecond (vbkLow : Bool) (vbkMv : BitVec 16) : Statement (.deviceSecond vbkLow vbkMv) := fun _ _ e => nomatch e
theorem freezeEdge : Statement (.freezeEdge) := fun _ _ e => nomatch e
theorem sessionLimit : Statement (.sessionLimit) := fun _ _ e => nomatch e
theorem bkdCommit : Statement (.bkdCommit) := fun _ _ e => nomatch e
theorem wakeInput (vbat27 : Bool) : Statement (.wakeInput vbat27) := fun _ _ e => nomatch e
theorem eventEdge (rising : Bool) : Statement (.eventEdge rising) := fun _ _ e => nomatch e
theorem matcherHit (f : HeardFrame) (vbat27 : Bool) : Statement (.matcherHit f vbat27) := fun _ _ e => nomatch e
theorem parkedServiceTimeout : Statement (.parkedServiceTimeout) := fun _ _ e => nomatch e
theorem insertionRequest (lineOk : Bool) : Statement (.insertionRequest lineOk) := fun _ _ e => nomatch e
theorem insertionGapFound : Statement (.insertionGapFound) := fun _ _ e => nomatch e
theorem removal : Statement (.removal) := fun _ _ e => nomatch e
theorem removalPassOpen : Statement (.removalPassOpen) := fun _ _ e => nomatch e
theorem ldieSupplyLoss : Statement (.ldieSupplyLoss) := fun _ _ e => nomatch e
theorem tailFlagChange (tail : Bool) : Statement (.tailFlagChange tail) := fun _ _ e => nomatch e
theorem downstreamShort (ld100 : BitVec 16) : Statement (.downstreamShort ld100) := fun _ _ e => nomatch e
theorem isolationRetry (gone : Bool) : Statement (.isolationRetry gone) := fun _ _ e => nomatch e
theorem headLineFault : Statement (.headLineFault) := fun _ _ e => nomatch e
theorem headLineRetry : Statement (.headLineRetry) := fun _ _ e => nomatch e
theorem lineRampComplete : Statement (.lineRampComplete) := fun _ _ e => nomatch e
theorem repeaterDirectionTaken (lu ld : Bool) : Statement (.repeaterDirectionTaken lu ld) := fun _ _ e => nomatch e
theorem repeaterIdleRelease : Statement (.repeaterIdleRelease) := fun _ _ e => nomatch e
theorem unservedFrame (why : FrameFault) (f : Frame) : Statement (.unservedFrame why f) := fun h _ e => frame_fits h e
theorem ping (f : Frame) : Statement (.ping f) := fun h _ e => frame_fits h e
theorem identify (f : Frame) : Statement (.identify f) := fun h _ e => frame_fits h e
theorem read (f : Frame) : Statement (.read f) := fun h _ e => frame_fits h e
theorem status (f : Frame) : Statement (.status f) := fun h _ e => frame_fits h e
theorem clear (f : Frame) : Statement (.clear f) := fun h _ e => frame_fits h e
theorem sweep (f : Frame) : Statement (.sweep f) := fun h _ e => frame_fits h e
theorem enumerate (f : Frame) : Statement (.enumerate f) := fun h _ e => frame_fits h e
theorem noticeWindow (f : Frame) : Statement (.noticeWindow f) := fun h _ e => frame_fits h e
theorem assign (f : Frame) : Statement (.assign f) := fun h _ e => frame_fits h e
theorem timeSet (f : Frame) : Statement (.timeSet f) := fun h _ e => frame_fits h e
theorem timeRead (f : Frame) : Statement (.timeRead f) := fun h _ e => frame_fits h e
theorem alarmSet (f : Frame) : Statement (.alarmSet f) := fun h _ e => frame_fits h e
theorem state (f : Frame) : Statement (.state f) := fun h _ e => frame_fits h e
theorem blockReset (f : Frame) : Statement (.blockReset f) := fun h _ e => frame_fits h e
theorem blockResetAssert : Statement (.blockResetAssert) := fun _ _ e => nomatch e
theorem imageOpen (f : Frame) : Statement (.imageOpen f) := fun h _ e => frame_fits h e
theorem imageEraseComplete : Statement (.imageEraseComplete) := fun _ _ e => nomatch e
theorem imageBlock (f : Frame) : Statement (.imageBlock f) := fun h _ e => frame_fits h e
theorem imageCommit (f : Frame) : Statement (.imageCommit f) := fun h _ e => frame_fits h e
theorem imageAbort (f : Frame) : Statement (.imageAbort f) := fun h _ e => frame_fits h e
theorem imageSessionTimeout : Statement (.imageSessionTimeout) := fun _ _ e => nomatch e
theorem logRead (f : Frame) : Statement (.logRead f) := fun h _ e => frame_fits h e
theorem claim (f : Frame) (stuck : List Nat) (lockReads : BitVec 3) : Statement (.claim f stuck lockReads) := fun h _ e => frame_fits h e
theorem responseCacheExpiry : Statement (.responseCacheExpiry) := fun _ _ e => nomatch e
theorem turnUnitSend : Statement (.turnUnitSend) := fun _ _ e => nomatch e
theorem appendUnit (hop : BitVec 10) : Statement (.appendUnit hop) := fun _ _ e => nomatch e
theorem trainDisarmTimeout : Statement (.trainDisarmTimeout) := fun _ _ e => nomatch e
theorem trainEnd (units : List TrainUnit) : Statement (.trainEnd units) := fun _ _ e => nomatch e
theorem trainTimeout : Statement (.trainTimeout) := fun _ _ e => nomatch e
theorem headRelayUnit (u : TrainUnit) (last : Bool) : Statement (.headRelayUnit u last) := fun _ _ e => nomatch e
theorem responseTimeout : Statement (.responseTimeout) := fun _ _ e => nomatch e
theorem responseReceived (nak : Bool) (f : Frame) : Statement (.responseReceived nak f) := fun h _ e => frame_fits h e
theorem headSweepTimer : Statement (.headSweepTimer) := fun _ _ e => nomatch e
theorem sndNke (address : Byte) : Statement (.sndNke address) := fun _ _ e => nomatch e
theorem sndUd (address : Byte) (ci : Byte) (secondary : List Byte) : Statement (.sndUd address ci secondary) := fun _ _ e => nomatch e
theorem reqUd2 (address : Byte) (fcb : Bool) : Statement (.reqUd2 address fcb) := fun _ _ e => nomatch e
theorem mbusMemberReadComplete : Statement (.mbusMemberReadComplete) := fun _ _ e => nomatch e
theorem pwronHigh : Statement (.pwronHigh) := fun _ _ e => nomatch e
theorem batteryLowRearm : Statement (.batteryLowRearm) := fun _ _ e => nomatch e
theorem vcoreStrobeTimeout : Statement (.vcoreStrobeTimeout) := fun _ _ e => nomatch e
theorem basaltReferenceLimit (c : RefCheck) : Statement (.basaltReferenceLimit c) := fun _ _ e => nomatch e
theorem forwardedRequest (type : BitVec 6) (f : Frame) : Statement (.forwardedRequest type f) := fun h _ e => frame_fits h e

end Sys2Proof.Laws.Operands
end

