-- ==== Sys2Proof/Tests/Slice0.lean ====
section
/-!
SUPPORT. Tests of the model: the well-formedness smoke test, for every statement with hypotheses states and operands that meet them
(named witness_ and the statement's name), and small checks whose expected values come from the spec's worked examples or from hand
calculation by its rules (named test_).
-/
namespace Sys2Proof.Machine.Tests
open Sys2Proof Sys2Proof.Machine

-- One proof after the other: each waits for the kernel's check of the whole model, and so many waiting threads are too many.
set_option Elab.async false

/-! ## States and operands -/

/-- A stand-alone device in normal operation, awake on the reference. -/
def up : State := { State.reset with
  start := { Start.reset with phase := .running }
  clk := { Clk.reset with core := true, onRef := true, refOn := true, declared := true }
  hmc := { Hmc.reset with on := true }
  lnk := { Lnk.reset with on := true } }

/-- A device with a code of CFG_A. -/
def withRole (k : BitVec 3) (s : State) : State := { s with straps := { s.straps with codes := some k :: List.replicate 5 (some 7) } }

/-- A member in normal operation at address 5, inserted in its chain. -/
def member : State := withRole 0 { up with
  lnk := { up.lnk with address := 5 }
  phy := { Phy.reset with ins := .inserted, bypassClosed := false, passClosed := true, repeater := true } }

/-- A head with a Watal upstream port. -/
def watal : State := withRole 1 { up with lnk := { up.lnk with address := 0 } }

/-- A head with an M-Bus upstream port. -/
def mhead : State := withRole 2 { up with lnk := { up.lnk with address := 0 } }

/-- A frame of a type from address 256 with sequence 7, its header check and its frame check formed by Tables 16.1 and 0.4. -/
def frame (t : BitVec 6) (dest : BitVec 10) (p : List Byte) : Frame :=
  let h := headerBytes dest 256 t 7 p.length
  { inverted := false, dest := dest, src := 256, seq := 7, headerCheck := crc8 h, payload := p, check := crc32 (h ++ [crc8 h] ++ p) }

/-- The raw calibration of a slot, in shape only, each averaging made `n` times. -/
def rawOf (n : Nat) : SlotRaw :=
  { codes1 := List.replicate (16 * n) 5470, codes2 := List.replicate (16 * n) 60102, inl := List.replicate 32 (List.replicate (32 * n) ⟨⟨1, 1⟩, 0⟩)
    cross := List.replicate (8 * n) ⟨⟨1, 1⟩, 0⟩, offset := ⟨1, 1⟩, gainCharged := true, inlCharged := true }

/-- The raw calibration of a slot, in shape only. -/
def raw0 : SlotRaw := rawOf 1

/-- Ring counts in shape only, and a self-test in shape only. -/
def ring0 : RingRaw := { countA := 1048576, countB := 1059171, rc := 46875 }
def self0 : SelfTest := { rings := ring0, intervals := List.replicate 16 ⟨4166, 100⟩ }

/-- The inputs of a start, in shape only. -/
def in0 : StartIn :=
  { ledgerFlips := List.replicate 3 0, fuseFlips1 := List.replicate 25 0, fuseFlips2 := List.replicate 25 0, fuseFlips3 := List.replicate 25 0
    pulseA := List.replicate 8 false, pulseB := List.replicate 8 false, strapTest := List.replicate 8 false
    countInt := 2094862, countTsref := 209486, cfg := List.replicate 6 (209486200, 209486200, 209486200)
    prq1 := .acknowledged, prq2 := .acknowledged, ref := ⟨4096, some 46875⟩, selfTest := self0, ring := ring0, cal := List.replicate 24 raw0
    banksHeld := true, lu100 := 0, ldGnd100 := 0, hang := none }

/-! ## Well-formedness -/

theorem test_wf_accepts : (Instr.corePorRelease in0).wf = true ∧ (Instr.corePorRelease { in0 with cal := List.replicate 24 (rawOf 4) }).wf = true ∧
    (Instr.vernierSelfTestTimer self0).wf = true ∧ (Instr.gapJobComplete ⟨self0, ring0, []⟩).wf = true ∧
    (Instr.gapJobComplete ⟨self0, ring0, List.replicate 24 raw0⟩).wf = true ∧ (Instr.sndUd 253 0x52 (List.replicate 8 0)).wf = true := by decide +kernel

theorem test_wf_fuses : (Instr.corePorRelease { in0 with fuseFlips1 := [] }).wf = false ∧
    (Instr.resetNReleased { in0 with fuseFlips2 := List.replicate 24 0 }).wf = false ∧
    (Instr.restartDelayExpiry { in0 with fuseFlips3 := List.replicate 26 0 }).wf = false ∧
    (Instr.corePorRelease { in0 with ledgerFlips := [0] }).wf = false := by decide +kernel

theorem test_wf_samples : (Instr.corePorRelease { in0 with pulseA := List.replicate 7 true }).wf = false ∧
    (Instr.corePorRelease { in0 with pulseB := [] }).wf = false ∧ (Instr.corePorRelease { in0 with strapTest := List.replicate 9 false }).wf = false ∧
    (Instr.corePorRelease { in0 with cfg := List.replicate 5 (0, 0, 0) }).wf = false := by decide +kernel

theorem test_wf_slots : (Instr.corePorRelease { in0 with cal := List.replicate 23 raw0 }).wf = false ∧
    (Instr.corePorRelease { in0 with cal := rawOf 4 :: List.replicate 23 raw0 }).wf = false ∧
    (Instr.corePorRelease { in0 with cal := List.replicate 24 { raw0 with codes1 := [] } }).wf = false ∧
    (Instr.gapJobComplete ⟨self0, ring0, List.replicate 24 { raw0 with codes2 := [] }⟩).wf = false ∧
    (Instr.gapJobComplete ⟨self0, ring0, List.replicate 24 { raw0 with inl := [] }⟩).wf = false ∧
    (Instr.gapJobComplete ⟨self0, ring0, List.replicate 24 { raw0 with inl := List.replicate 32 [] }⟩).wf = false ∧
    (Instr.gapJobComplete ⟨self0, ring0, List.replicate 24 { raw0 with inl := List.replicate 32 (List.replicate 32 ⟨⟨1, 111⟩, 0⟩) }⟩).wf = false ∧
    (Instr.gapJobComplete ⟨self0, ring0, List.replicate 24 { raw0 with cross := [] }⟩).wf = false ∧
    (Instr.gapJobComplete ⟨self0, ring0, List.replicate 24 { raw0 with cross := List.replicate 8 ⟨⟨2 ^ 32, 1⟩, 0⟩ }⟩).wf = false ∧
    (Instr.gapJobComplete ⟨self0, ring0, List.replicate 24 { raw0 with offset := ⟨0, 111⟩ }⟩).wf = false ∧
    (Instr.gapJobComplete ⟨self0, ring0, [raw0]⟩).wf = false := by decide +kernel

theorem test_wf_self_test : (Instr.vernierSelfTestTimer { self0 with intervals := List.replicate 15 ⟨1, 1⟩ }).wf = false ∧
    (Instr.vernierSelfTestTimer { self0 with intervals := List.replicate 16 ⟨1, 111⟩ }).wf = false ∧
    (Instr.gapJobComplete ⟨{ self0 with intervals := [] }, ring0, []⟩).wf = false ∧
    (Instr.corePorRelease { in0 with selfTest := { self0 with intervals := [] } }).wf = false := by decide +kernel

theorem test_wf_frames : (Instr.ping { frame typePing 5 [] with payload := List.replicate 255 0 }).wf = true ∧
    (Instr.ping { frame typePing 5 [] with payload := List.replicate 256 0 }).wf = false ∧
    (Instr.responseReceived false { frame typePing 5 [] with payload := List.replicate 256 0 }).wf = false := by decide +kernel

theorem test_wf_secondary : (Instr.sndUd 253 0x52 [0]).wf = false := by decide

/-! ## Witnesses: queue, resets, start -/

theorem witness_StepRunsFrontCommand : { up with pending := [.freezeEdge, .sessionLimit] }.pending = .freezeEdge :: [.sessionLimit] := by decide

/-- A device whose reference is being checked, with the counters of R18. -/
def checking (p : Presence) : State := { State.reset with clk := { Clk.reset with core := true, refOn := true, presence := p } }

theorem witness_EmptyQueueCountsOnePeriod : (State.reset.pending = [] ∧ State.reset.bkd.alive = true ∧ State.reset.clk.checks = false) ∧
    (∀ p, (checking p).pending = [] ∧ (checking p).bkd.alive = true ∧ (checking p).clk.refOn = true ∧ (checking p).clk.declared = false ∧
      (checking p).clk.presence = p) ∧
    46875 - 47 ≤ 46828 ∧ 46922 ≤ 46875 + 47 := ⟨by decide, fun _ => ⟨rfl, rfl, rfl, rfl, rfl⟩, by decide⟩

theorem witness_PowerOnResetsReach : { State.reset with bkd := { Bkd.reset with alive := false } }.bkd.alive = false := by decide

theorem witness_CoreResetsKeepFlintBanks : up.prq.bor.isSome = true ∧
    (up.power.vbatGood = true ∧ up.power.state ≠ .off ∧ up.power.trans ≠ .lossWindow .off) ∧ (2700 ≤ 2700 ∧ 2699 < 2700) ∧
    (let off : State := { up with power := { up.power with state := .off } }
     off.power.vbatGood = true ∧ off.power.state = .off) ∧
    (let entering : State := { up with power := { up.power with trans := .lossWindow .off } }
     entering.power.vbatGood = true ∧ entering.power.trans = .lossWindow .off) ∧
    ({ up with power := { up.power with vbatGood := false } }.power.vbatGood = false) := by decide

/-- A device held in the restart delay. -/
def delayed : State := { State.reset with start := { Start.reset with phase := .delay } }

/-- A device with RESET_N held low. -/
def heldLow : State := { State.reset with power := { Power.reset with resetLow := true } }

theorem witness_StartRecordsItsCause :
    (State.reset.power.pwron = true ∧ State.reset.power.vbatGood = true ∧ State.reset.bkd.alive = true ∧
      State.reset.start.phase = .inReset ∧ State.reset.power.resetLow = false) ∧
    (heldLow.power.pwron = true ∧ heldLow.power.vbatGood = true ∧ heldLow.bkd.alive = true ∧ heldLow.start.phase = .inReset ∧
      heldLow.power.resetLow = true) ∧
    (delayed.power.pwron = true ∧ delayed.power.vbatGood = true ∧ delayed.bkd.alive = true ∧ delayed.start.phase = .delay ∧
      delayed.power.resetLow = false) := by decide

/-- A device in S04 after a number of failed starts. -/
def atS04 (n : BitVec 2) : State := { State.reset with
  start := { Start.reset with phase := .step 4, input := some in0 }
  bkd := { Bkd.reset with ledger := { Ledger.reset with failCount := n } } }

theorem witness_FailedStepRestartsOrLatchesBasalt :
    ∀ n : BitVec 2, (atS04 n).start.phase = .step 4 ∧ (atS04 n).start.input = some in0 ∧ (atS04 n).bkd.commits = [] ∧
      (atS04 n).bkd.ledger.basalt = false ∧
      ((atS04 n).bkd.ledger.failCount.toNat ≤ 1 ∨ 2 ≤ (atS04 n).bkd.ledger.failCount.toNat) := by
  intro n; exact ⟨rfl, rfl, rfl, rfl, Nat.lt_or_ge _ 2 |>.imp Nat.lt_succ_iff.mp id⟩

/-- A device whose management core was reset by the watchdog before, at these device seconds. -/
def dogged (ds : List (BitVec 32)) : State := { up with hmc := { up.hmc with dogs := ds }
                                                        bkd := { up.bkd with time := { up.bkd.time with deviceS := 4000 } } }

theorem witness_WatchdogAndBlockTimeouts :
    (∀ ds : List (BitVec 32), (dogged ds).dogRuns = true ∧ (dogged ds).start.phase = .running ∧ (dogged ds).img = none) ∧
    ((dogged [3000]).hmc.dogs.filter (fun d => decide (((dogged [3000]).now - d).toNat ≤ 3600))).length + 1 < 3 ∧
    ((dogged [399, 400]).hmc.dogs.filter (fun d => decide (((dogged [399, 400]).now - d).toNat ≤ 3600))).length + 1 < 3 ∧
    3 ≤ ((dogged [400, 401]).hmc.dogs.filter (fun d => decide (((dogged [400, 401]).now - d).toNat ≤ 3600))).length + 1 :=
  ⟨fun _ => ⟨rfl, rfl, rfl⟩, by decide⟩

/-- A device in Basalt mode with its reference running and not declared. -/
def basaltUp : State := { up with
  start := { up.start with phase := .basalt }
  clk := { up.clk with onRef := false, declared := false } }

theorem witness_WatchdogAndBlockTimeouts_basalt : basaltUp.start.phase = .basalt ∧ basaltUp.clk.refOn = true ∧
    basaltUp.clk.declared = false ∧ basaltUp.clk.absent = false := by decide

/-- A member in Basalt mode whose LNK stays in reset, and AG that stays in reset in normal operation. -/
theorem witness_WatchdogAndBlockTimeouts_clock :
    (let b : State := withRole 0 basaltUp
     b.start.phase = .basalt ∧ b.role ≠ .standAlone ∧ b.bkd.commits = []) ∧
    (up.start.phase = .running ∧ up.power.parked = none ∧ up.power.latchedState = none ∧ up.ag.analysing = false) := by decide

/-! ## Witnesses: backup domain -/

/-- A device at a time of day with an alarm of some mode set for 08:00:00, its time trusted. -/
def atTime (mode : BitVec 2) (c : Cal) : State := { up with bkd := { up.bkd with
  alarm := ⟨mode, 8, 0, 0⟩
  time := { up.bkd.time with cal := c, osf := false } } }

/-- 07:59:59 on 2024-02-28. -/
def beforeEight : Cal := ⟨0x59, 0x59, 0x07, 0x28, 0x02, 0x24⟩

/-- The last second of year 99. -/
def endOf99 : Cal := ⟨0x59, 0x59, 0x23, 0x31, 0x12, 0x99⟩

/-- Whether the next second of a device fires its alarm. -/
def nextFires (s : State) : Bool := s.bkd.time.cal.next.isAlarm s.bkd.alarm && s.alarmFires s.bkd.time.cal.next

theorem witness_CalendarSecondAdvances :
    (nextFires (atTime 0 beforeEight) = false ∧ (atTime 0 beforeEight).bkd.alive = true ∧ (atTime 0 beforeEight).bkd.commits = []) ∧
    (nextFires (atTime 1 endOf99) = false ∧ (atTime 1 endOf99).bkd.time.cal.year = 0x99 ∧ (atTime 1 endOf99).bkd.time.cal.next.year = 0) ∧
    (nextFires (atTime 1 beforeEight) = true ∧ (atTime 1 beforeEight).bkd.alive = true ∧ (atTime 1 beforeEight).power.state ≠ .off ∧
      (atTime 1 beforeEight).basaltMode = false ∧ (atTime 1 beforeEight).bkd.commits = []) ∧
    nextFires (atTime 2 beforeEight) = true := by decide

/-- The edge of a request in flight: a time group, another group and a freeze. -/
theorem witness_CalendarSecondAdvances_edge : ∀ (mode : BitVec 2) (k : Commit),
    let s : State := { atTime mode beforeEight with bkd := { (atTime mode beforeEight).bkd with commits := [k, .alarmClear] } }
    s.bkd.alive = true ∧ s.bkd.commits = k :: [.alarmClear] ∧ s.power.state ≠ .off ∧ s.basaltMode = false ∧
    nextFires s = nextFires (atTime mode beforeEight) ∧
    (k = .alarmClear ∨ k = .freeze → ¬ (Config.sharesEdge s.free = true ∧ ∃ x, k = .time x)) := by
  intro mode k
  refine ⟨rfl, rfl, by simp [atTime, up, State.reset, Power.reset], rfl, rfl, ?_⟩
  rintro (rfl | rfl) <;> simp

/-- Valid times whose next second is the same day, the next day, month and year, in a common and a leap year. -/
theorem witness_CalendarSecondAdvances_dates :
    let tod := fun (c : Cal) => ofBcd c.hour * 3600 + ofBcd c.min * 60 + ofBcd c.sec
    (∀ c ∈ ([⟨0, 0, 0, 1, 1, 0⟩, ⟨0x58, 0x59, 0x23, 0x31, 0x12, 0x99⟩] : List Cal), c.ok = true ∧ tod c < 86399) ∧
    (∀ c ∈ (([(0x27, 2, 0x24), (0x28, 2, 0x24), (0x29, 2, 0x24), (0x28, 2, 0x23), (0x30, 4, 1), (0x31, 1, 1), (0x31, 0x12, 0x98)] :
      List (Byte × Byte × Byte)).map (fun d => (⟨0x59, 0x59, 0x23, d.1, d.2.1, d.2.2⟩ : Cal))), c.ok = true ∧ tod c = 86399) ∧
    (endOf99.ok = true ∧ tod endOf99 = 86399) := by decide

/-- A device whose last LBF checks were low. -/
def lowChecks (n : BitVec 2) : State := { up with bkd := { up.bkd with lbfBelow := n } }

/-- Whether a check sets LBF, as the statement computes it. -/
def setsLbf (s : State) (low : Bool) : Bool :=
  (if low then (if s.bkd.lbfBelow = 0 then (1 : BitVec 2) else 2) else 0) == 2 && !s.bkd.time.lbf

theorem witness_DeviceSecondAndLowBattery :
    (lowChecks 1).bkd.alive = true ∧ setsLbf (lowChecks 0) true = false ∧ setsLbf (lowChecks 1) false = false ∧
    setsLbf (lowChecks 1) true = true ∧ setsLbf (lowChecks 2) true = true := by decide

theorem witness_CompensationConservesTime :
    ((200000 : BitVec 24).toInt.natAbs ≤ 200000 ∧ (1900000000 : BitVec 32).toInt.natAbs ≤ 1900000000) ∧
    ((BitVec.ofInt 24 (-200000)).toInt.natAbs ≤ 200000 ∧ (BitVec.ofInt 32 (-1900000000)).toInt.natAbs ≤ 1900000000) := by decide

/-- A device with an open read session. -/
def inSession : State := { up with bkd := { up.bkd with shadow := some TimeRegs.reset, readers := 1 } }

/-- A device whose freeze request stands first, with readers that wait or that have gone. -/
def freezing (n : Nat) : State := { up with bkd := { up.bkd with commits := [.freeze, .alarmClear], readers := n } }

theorem witness_ReadSessionFreezes : (∀ n, (freezing n).bkd.alive = true ∧ (freezing n).bkd.commits = .freeze :: [.alarmClear]) ∧
    up.bkd.commits.head? ≠ some .freeze ∧
    (inSession.bkd.alive = true ∧ inSession.bkd.shadow.isSome = true ∧ inSession.power.state ≠ .off ∧ inSession.bkd.commits = []) :=
  ⟨fun _ => ⟨rfl, rfl⟩, by decide⟩

/-- Every step of these two commands in an open session is a next state. -/
theorem witness_ReadSessionFreezes_runs : (∃ t, exec (.rtcSecond true) inSession = .next t) ∧ ∃ t, exec (.deviceSecond false 0) inSession = .next t :=
  ⟨⟨_, rfl⟩, ⟨_, rfl⟩⟩

/-- A device in SLEEP. -/
def asleep : State := { up with
  clk := { Clk.reset with core := false }
  prq := { Prq.reset with vcore := 1, bor := some 1 }
  power := { up.power with state := .sleep } }

/-- A device in OFF with VBAT good. -/
def offNow : State := { asleep with
  start := { Start.reset with phase := .inReset }
  power := { asleep.power with state := .off, pwron := false } }

/-- A device between E and E + 4 of an entry. -/
def inLoss (p : PState) : State := { asleep with power := { up.power with trans := .lossWindow p } }

/-- A device that selects an EVENT edge. -/
def eventSel (k : BitVec 2) : State := { up with bkd := { up.bkd with eventEdge := k } }

theorem witness_LfSourceAndWakeInputs :
    (up.bkd.alive = true ∧ up.bkd.time.lfIsRc = true) ∧
    ({ up with bkd := { up.bkd with time := { up.bkd.time with lfIsRc := false } } }.bkd.time.lfIsRc = false) ∧
    (asleep.bkd.alive = true ∧ asleep.holdsWake = true ∧ asleep.power.state ≠ .off) ∧
    (offNow.bkd.alive = true ∧ offNow.power.state = .off ∧ offNow.power.trans = .none ∧ offNow.power.vbatGood = true ∧ offNow.clk.core = false) ∧
    ((withRole 0 asleep).holdsWake = true ∧ (withRole 0 asleep).linkSupply = true ∧ (withRole 0 asleep).power.state ≠ .off) ∧
    ((eventSel 1).bkd.eventLevel ≠ true ∧ (eventSel 1).inLossWindow = false ∧ selectsEdge (eventSel 1).bkd.eventEdge true = true ∧
      (eventSel 1).bkd.eventLatch = false ∧ (eventSel 1).awake = true ∧ (eventSel 1).power.trans = .none) ∧
    ({ asleep with bkd := { asleep.bkd with eventEdge := 3 } }.inLossWindow = false ∧ asleep.awake = false) ∧
    ((eventSel 2).bkd.eventLevel ≠ true ∧ selectsEdge (eventSel 2).bkd.eventEdge true = false) ∧
    (inLoss .sleep).inLossWindow = true := by decide

/-- A device in OFF whose WAKE, or whose matcher hit in a member, is held. -/
def offHeld (wake : Bool) : State := withRole (if wake then 7 else 0) { offNow with
  power := { offNow.power with heldWake := wake, heldMatcher := !wake, vbatGood := false } }

theorem witness_PowerOnResetsReach_held : ∀ wake : Bool, (offHeld wake).bkd.alive = true ∧ (offHeld wake).power.state = .off ∧
    (offHeld wake).power.trans = .none ∧ (offHeld wake).offSource = true := by decide

/-- A frame to the own address, a broadcast STATE, and two that the matcher lets pass. -/
theorem witness_LfSourceAndWakeInputs_matcher :
    let hits := fun (s : State) (f : HeardFrame) =>
      decide ((f.dest = s.lnk.address ∧ f.dest ≠ addrBroadcast) ∨ (f.dest = addrBroadcast ∧ f.type = typeState))
    (∀ s ∈ [withRole 0 asleep, withRole 0 offNow], s.bkd.alive = true ∧ s.linkSupply = true ∧ s.holdsWake = true ∧
      hits s ⟨s.lnk.address, typePing⟩ = true ∧ hits s ⟨addrBroadcast, typeState⟩ = true ∧
      hits s ⟨addrBroadcast, typeSweep⟩ = false ∧ hits s ⟨7, typePing⟩ = false) ∧
    ((withRole 0 offNow).power.state = .off ∧ (withRole 0 offNow).power.trans = .none ∧ (withRole 0 offNow).power.vbatGood = true ∧
      (withRole 0 offNow).clk.core = false) ∧ (offNow.holdsWake = true ∧ asleep.power.state ≠ .off) := by decide

/-- A device with commit requests waiting. -/
def waits (cs : List Commit) : State := { up with bkd := { up.bkd with commits := cs } }

theorem witness_CommitsTakeEffectInOrder : ∀ c : Commit,
    (waits [c, .alarmClear]).bkd.alive = true ∧ (waits [c, .alarmClear]).bkd.commits = c :: [.alarmClear] ∧
    (waits [c, .alarmClear]).bkd.alarm.mode = 0 := fun _ => ⟨rfl, rfl, rfl⟩

/-- A time to be set, with the alarm of 08:00:00 in force and 07:59:59 the present time. -/
def setting (n : Cal) : State := { atTime 1 beforeEight with bkd := { (atTime 1 beforeEight).bkd with commits := [.time n] } }

/-- A device before S03 whose strap copy holds a member's codes, its time untrusted. -/
def beforeStraps : State := { State.reset with
  bkd := { Bkd.reset with strapCopy := some { levels := .const false, codes := [0, 0, 0, 0, 0, 0], crc := 0 } } }

theorem witness_TimeSetAcrossAlarmFires :
    (beforeStraps.strapsRead = false ∧ beforeStraps.bkd.strapCopy = some { levels := .const false, codes := [0, 0, 0, 0, 0, 0], crc := 0 } ∧
      beforeStraps.bkd.time.osf = true ∧ roleOf (some (0 : BitVec 3)) ≠ .standAlone) ∧
    (∀ n, (setting n).bkd.alive = true ∧ (setting n).bkd.commits = .time n :: [] ∧ (setting n).bkd.alarm.mode = 1 ∧
      (setting n).bkd.time.osf = false ∧ (setting n).power.state ≠ .off ∧ (setting n).basaltMode = false) ∧
    (lateInstant (setting endOf99).bkd.alarm beforeEight ⟨1, 0, 0x08, 0x28, 0x02, 0x24⟩ = some ⟨0, 0, 0x08, 0x28, 0x02, 0x24⟩ ∧
      (⟨1, 0, 0x08, 0x28, 0x02, 0x24⟩ : Cal).isAlarm (setting endOf99).bkd.alarm = false) ∧
    (⟨0, 0, 0x08, 0x28, 0x02, 0x24⟩ : Cal).isAlarm (setting endOf99).bkd.alarm = true :=
  ⟨by decide, fun _ => ⟨rfl, rfl, rfl, rfl, by simp [setting, atTime, up, State.reset, Power.reset], rfl⟩, by decide⟩

/-! ## Witnesses: power -/

/-- An awake device in a state of Table 14.1 with given votes of SEQ and LNK. -/
def voting (st : PState) (seq lnk : BitVec 2) (timer : Bool) : State := { up with
  power := { up.power with state := st, seq := seq, lnk := lnk, idleTimer := timer } }

theorem witness_VotesAndIdleTimer :
    (¬ (1 : BitVec 2).toNat < ((voting .run 0 2 false).power.vote .seq).toNat) ∧
    ((0 : BitVec 2).toNat < ((voting .idle 2 1 false).power.vote .seq).toNat ∧ (voting .idle 2 1 false).power.trans = .none ∧
      (voting .idle 2 1 false).power.parked = none) ∧
    ((voting .run 0 2 true).timerRuns = true ∧ (voting .run 0 2 true).seq.pfStop = false ∧ (voting .run 0 2 true).power.target = 0) ∧
    ((voting .run 2 1 true).timerRuns = true ∧ (voting .run 2 1 true).power.target = 1) ∧
    ((voting .run 2 2 true).timerRuns = true ∧ (voting .run 2 2 true).power.target = 2 ∧ (voting .run 2 2 true).mem.busy = none ∧
      (voting .run 2 2 true).prq.req = none) ∧
    (let s : State := { voting .run 2 2 true with mem := { up.mem with busy := some .log } }
     s.timerRuns = true ∧ s.seq.pfStop = false ∧ s.power.target = 2 ∧ s.mem.busy.isSome = true) ∧
    ((voting .run 2 2 false).timerRuns = false) ∧
    (∀ p ∈ [PState.sleep, .deep], (inLoss p).power.trans = .lossWindow p ∧ p ≠ .off ∧ (inLoss p).power.latchedState = none) ∧
    (let s := inLoss .off
     s.power.trans = .lossWindow .off ∧ s.power.latchedState = none ∧ s.offSource = false) ∧
    (let s : State := { inLoss .off with power := { (inLoss .off).power with heldWake := true } }
     s.power.trans = .lossWindow .off ∧ s.power.latchedState = none ∧ s.offSource = true ∧ s.power.vbatGood = true) := by decide

/-- At E + 4 of an entry with VBAT low, and with a STATE latched. -/
theorem witness_VotesAndIdleTimer_latched :
    (let s : State := { inLoss .off with power := { (inLoss .off).power with heldWake := true, vbatGood := false } }
     s.power.trans = .lossWindow .off ∧ s.power.latchedState = none ∧ s.offSource = true ∧ s.power.vbatGood = false) ∧
    (∀ p ∈ [PState.sleep, .deep], ∀ n : BitVec 3, let s : State := { inLoss p with power := { (inLoss p).power with latchedState := some n } }
     s.power.trans = .lossWindow p ∧ s.power.latchedState = some n ∧ (p = .sleep ∨ p = .deep)) := by decide

theorem witness_VotesAndIdleTimer_none : ∀ p, up.power.trans ≠ .lossWindow p := by
  intro p; simp [up, State.reset, Power.reset]

/-- A device in SLEEP with a held tick or a held WAKE. -/
def tickHeld (tick : Bool) : State := { asleep with power := { asleep.power with heldTick := tick, heldWake := !tick } }

theorem witness_WakeFromSleepRequestsVoltage : ∀ tick : Bool,
    (tickHeld tick).power.state = .sleep ∧ (tickHeld tick).power.trans = .none ∧ (tickHeld tick).sleepSource = true ∧
    (tickHeld tick).power.fail = none ∧ (tickHeld tick).prq.req = none ∧ (tickHeld tick).seq.phase = .none := by decide

/-- A device in SLEEP after a failed wake. -/
def failed : State := { asleep with power := { asleep.power with fail := some ⟨0, .sleep, 0, 0x31⟩ } }

/-- A device in DEEP SLEEP with its WAKE held. -/
def deepWake : State := { asleep with power := { asleep.power with state := .deep, heldWake := true } }

/-- A device that waits for VCORE to settle. -/
def strobing : State := { asleep with power := { asleep.power with state := .deep, trans := .deepStrobe } }

theorem witness_FailedWakesAndDeepExit :
    (failed.power.fail = some ⟨0, .sleep, 0, 0x31⟩ ∧ failed.power.trans = .none ∧ failed.prq.req = none ∧ failed.power.state = .sleep ∧ failed.tiu.testing = false) ∧
    (deepWake.power.state = .deep ∧ deepWake.power.trans = .none ∧ deepWake.deepSource .wakePin = true) ∧
    strobing.power.trans = .deepStrobe := by decide

/-- A device with a request outstanding. -/
def asking (w : BitVec 16) (why : PrqWhy) (second : Bool) : State := { up with prq := { up.prq with req := some ⟨w, why, second⟩ } }

theorem witness_PollsAnswerRequests : ∀ x : Byte, (asking 0xA916 .cycle false).prq.req = some ⟨0xA916, .cycle, false⟩ ∧
    (x = 0x79 → pollOf 0xA916 x = .ack) ∧ (x = 0x75 → pollOf 0xA916 x = .refused) ∧
    (x = 0x78 → ¬ ((ones x % 2 = 1 ∧ x.extractLsb' 5 3 = tagOf 0xA916) ∧
      ((x.getLsbD 4 = true ∧ x.getLsbD 3 = true ∧ x.getLsbD 1 = false) ∨ x.getLsbD 2 = true))) := by
  intro x; refine ⟨rfl, ?_, ?_, ?_⟩ <;> (rintro rfl; decide)

/-- A retry of a failed wake whose request stands. -/
def retrying : State := { asking 0xA000 .retry false with power := { up.power with fail := some ⟨1, .sleep, 7, 0x31⟩ } }

/-- The word for 0.75 V, VDRV off, tag 4; and a retry that is acknowledged. -/
theorem witness_RequestsEndOrRepeat :
    (retrying.prq.req = some ⟨0xA000, .retry, false⟩ ∧ retrying.power.fail = some ⟨1, .sleep, 7, 0x31⟩ ∧ retrying.power.trans = .none ∧
      retrying.seq.phase = .none ∧ retrying.power.heldMgmt = none ∧ retrying.power.parked = none ∧ retrying.power.latchedState = none ∧
      pollOf 0xA000 0x19 = .ack) ∧
    ((asking 0x9008 (.entry .sleep) false).prq.req = some ⟨0x9008, .entry .sleep, false⟩ ∧ (asking 0x9008 (.entry .sleep) false).seq.phase = .none ∧ pollOf 0x9008 0x98 = .ack) ∧
    ((asking 0x9008 (.entry .sleep) true).prq.req = some ⟨0x9008, .entry .sleep, true⟩ ∧ (asking 0x9008 (.entry .sleep) true).seq.phase = .none ∧ (asking 0x9008 (.entry .sleep) true).prq.upward 0x9008 = false) := by decide

theorem witness_RequestsEndOrRepeat_refused : (asking 0x9008 (.entry .sleep) false).prq.upward 0x9008 = false ∧
    pollOf 0x9008 0x85 = .refused := by decide

/-- A wake from SLEEP whose request for 0.90 V is outstanding. -/
def waking (ph : CyclePhase) : State := { asking 0xA000 (.wake true) false with
  prq := { req := some ⟨0xA000, .wake true, false⟩, tag := 1, vcore := 1, vdrv := false, bor := some 1 }
  power := { up.power with trans := .exitSleep }
  seq := { up.seq with phase := ph } }

theorem witness_UpwardRequestFailsTheWake : ∀ b : Bool, let s := waking (if b then .before else .none)
    s.prq.req = some ⟨0xA000, .wake true, false⟩ ∧ pollOf 0xA000 0x04 = .refused ∧ s.prq.upward 0xA000 = true ∧ s.power.fail = none ∧
    s.mem.busy = none ∧ s.awake = true ∧ (s.seq.phase = .none ∨ s.seq.phase = .before) := by decide

theorem witness_UpwardRequestFailsTheWake_second :
    let s : State := { waking .none with prq := { (waking .none).prq with req := some ⟨0xA000, .wake true, true⟩ } }
    s.prq.req = some ⟨0xA000, .wake true, true⟩ ∧ s.prq.upward 0xA000 = true ∧ s.power.fail = none ∧ s.mem.busy = none ∧ s.awake = true ∧
    s.seq.phase = .none := by decide

/-! ## Witnesses: memory -/

theorem witness_MemcServesInOrder :
    nextReq [.log, .save false 0 none, .eraseSlot 1, .save true 1 none] =
      some (.save true 1 none, [.log, .save false 0 none, .eraseSlot 1]) ∧
    nextReq [.log, .eraseSlot 1, .save false 0 none] = some (.eraseSlot 1, [.log, .save false 0 none]) := by decide

/-- A device whose save is in progress at a position of a slot. -/
def saving (slot pos : Nat) : State := { up with
  mem := { up.mem with known := true, density := 1048576, busy := some (.save false 0 (some (List.replicate 114 0)))
                       queue := [.save false 0 none, .log] }
  save := { up.save with slot := slot, pos := pos } }

theorem witness_SaveCompletes : ∀ last : Bool, let s := saving (if last then 1 else 0) (if last then 31 else 1)
    s.mem.busy = some (.save false 0 (some (List.replicate 114 0))) ∧ (List.replicate 114 (0 : Byte)).length = 114 ∧
    s.mem.present = true ∧ MemoryInv s ∧ s.saveErases = false ∧ s.saveOk = true ∧ s.power.trans = .none ∧
    s.mem.suspended = [] ∧ s.mem.resetDue = false ∧ s.lnk.resetAfter = none ∧ slotBase s.save.slot + 128 * s.save.pos + 128 ≤ s.mem.fitted := by
  unfold MemoryInv; decide

theorem witness_SaveFailureRetiresSlot :
    (saving 1 0).mem.busy = some (.save false 0 (some (List.replicate 114 0))) ∧ (saving 1 0).power.trans = .none ∧
    (saving 1 0).mem.resetDue = false ∧ (saving 1 0).lnk.resetAfter = none ∧ (saving 1 0).save.first ≠ (saving 1 0).save.second ∧
    ((saving 1 0).save.slot = (saving 1 0).save.first ∨ (saving 1 0).save.slot = (saving 1 0).save.second) ∧
    (saving 1 0).save.spare = some 2 := by decide

/-- The spare, with a byte left of its old records, on a NOR part that takes its erase. -/
theorem witness_SaveFailureRetiresSlot_erase : ∀ pf : Bool,
    let s : State := { saving 1 0 with mem := { (saving 1 0).mem with
      queue := [.log], cells := [(slotBase 2 + 5, 3)], busy := some (.save pf 0 (some (List.replicate 114 0))) } }
    MemoryInv s ∧ s.mem.present = true ∧ s.mem.suspended = [] ∧ s.mem.opOk (slotBase 2) 4096 = true ∧ slotBase 2 + 4096 ≤ s.mem.fitted ∧
    s.mem.fram = false ∧ s.save.spare = some 2 ∧ (∀ q ∈ s.mem.queue, 0 < q.rank) := by
  unfold MemoryInv; decide

/-! ## Witnesses: cycles -/

/-- A device whose cycle timer runs. -/
def ticking (st : PState) : State := { up with
  bkd := { up.bkd with timerOn := true }
  power := { up.power with state := st } }

theorem witness_CycleTickBeginsACycle :
    ((ticking .off).bkd.timerOn = true ∧ (ticking .off).cycling = true ∧ (advanceTick (ticking .off)).tickIgnored = true) ∧
    ((ticking .run).bkd.timerOn = true ∧ (ticking .run).cycling = true ∧ (advanceTick (ticking .run)).tickIgnored = false ∧
      (ticking .run).awake = true ∧ (ticking .run).power.trans = .none ∧ (ticking .run).seq.phase = .none ∧ (ticking .run).seq.job = none ∧
      (ticking .run).clk.absent = false ∧ (ticking .run).seq.sweepDue = false ∧ (ticking .run).prq.req = none ∧ (ticking .run).power.seq = 2) ∧
    ((advanceTick (ticking .idle)).tickIgnored = false ∧ (ticking .idle).awake = true) ∧
    (let s : State := { asleep with bkd := { up.bkd with timerOn := true } }
     s.bkd.timerOn = true ∧ s.cycling = true ∧ (advanceTick s).tickIgnored = false ∧ s.awake = false ∧ s.seq.phase = .none ∧
     s.seq.job = none ∧ s.seq.sweepDue = false ∧ s.power.heldTick = false) := by decide +kernel

/-- Ticks that come otherwise: a cycle or a job still under way, a sweep due, the reference absent, and a tick still held. -/
theorem witness_CycleTickBeginsACycle_other :
    (let s : State := { ticking .off with power := { (ticking .off).power with heldTick := true } }
     s.cycling = true ∧ (advanceTick s).tickIgnored = true ∧ s.power.heldTick = true) ∧
    (∀ x ∈ [({ up.seq with phase := .launched } : Seq), { up.seq with job := some .gain }, { up.seq with sweepDue := true, lastFits := true },
        { up.seq with sweepDue := true, lastFits := false }], let s : State := { ticking .run with seq := x }
     s.bkd.timerOn = true ∧ s.cycling = true ∧ (advanceTick s).tickIgnored = false ∧ s.awake = true ∧ s.power.trans = .none ∧
     s.clk.absent = false ∧ s.start.agOut = false) ∧
    (let s : State := { ticking .run with clk := { (ticking .run).clk with absent := true, onRef := false, declared := false } }
     s.bkd.timerOn = true ∧ s.cycling = true ∧ (advanceTick s).tickIgnored = false ∧ s.awake = true ∧ s.power.trans = .none ∧
     s.clk.absent = true ∧ s.seq.phase = .none ∧ s.seq.job = none ∧ s.prq.req = none) := by decide +kernel

/-- A cycle that waits for its launch edge. -/
def before (kind : CycleKind) : State := { up with
  seq := { up.seq with phase := .before, kind := kind, acked := true }
  power := { up.power with seq := 0 } }

theorem witness_LaunchArmsTheFiredPaths :
    (up.seq.kind = .normal ∧ up.launchReady = false) ∧
    ((before .normal).seq.kind = .normal ∧ (before .normal).launchReady = true ∧ (before .normal).temp.set = none ∧
      (before .normal).tiu.test = .armed) ∧
    ((before .normal).fires .one = true ∧ Dir.up ∈ (before .normal).shotDirs ∧ Dir.dn ∈ (before .normal).shotDirs) ∧
    (before .normal).fires .two = false ∧
    ((before .normal).conf.alternating = false ∧ (before .normal).cycling = true ∧ (before .normal).power.resetLow = false ∧
      (∀ d : Dir, ((before .normal).afe.get .one).clamp.get d = false) ∧ 15 < (before .normal).conf.burst ∧ 47 < (before .normal).conf.hq) := by
  refine ⟨by decide +kernel, by decide +kernel, by decide +kernel, by decide +kernel, ?_⟩
  refine ⟨by decide, by decide, by decide, fun d => by cases d <;> rfl, by decide, by decide⟩

/-- A lane released. -/
def released : AfeDir := { AfeDir.reset with phase := .released }

/-- An alternating cycle whose first direction is released, with its window closed 401 grid units after the launch. -/
def halfway : State := { up with
  conf := { up.conf with alternating := true }
  seq := { up.seq with phase := .launched, fired := ⟨true, false, false⟩ }
  afe := ⟨{ AfePath.reset with dirs := ⟨released, AfeDir.reset⟩ }, AfePath.reset, AfePath.reset⟩
  tiu := { up.tiu with launch1 := 1000, paths := ⟨{ TiuPath.reset with dirs := ⟨⟨100, 401, 0, []⟩, ⟨100, 300, 0, []⟩⟩ }, TiuPath.reset, TiuPath.reset⟩ } }

/-- A cycle that waits for its repeat. -/
def repeating : State := { up with
  seq := { up.seq with phase := .repeating, fired := ⟨true, false, false⟩, repeated := ⟨true, false, false⟩ }
  tiu := { halfway.tiu with launch1 := 16777000 } }

/-- A sweep that has made a number of launches. -/
def sweeping (n : Nat) : State := { up with seq := { up.seq with sweepOn := true, sweepIdx := n, kind := .sweep } }

/-- A repeat of an alternating cycle whose first direction is released, at the spacing that the discarded pair had. -/
def halfwayAgain : State := { halfway with seq := { halfway.seq with phase := .repeating, altGap := 300 } }

theorem witness_FurtherLaunches :
    (halfway.seq.phase = .launched ∧ halfway.conf.alternating = true ∧ halfway.dirDone (firstDir halfway.seq.parity) = true ∧
      ((1201 : BitVec 24) - halfway.tiu.launch1).toNat = halfway.gapRef ∧ ((1200 : BitVec 24) - halfway.tiu.launch1).toNat ≠ halfway.gapRef ∧
      Idx3.one ∈ halfway.shot) ∧
    (halfwayAgain.seq.phase = .repeating ∧ halfwayAgain.conf.alternating = true ∧ halfwayAgain.dirDone (firstDir halfwayAgain.seq.parity) = true ∧
      ((1300 : BitVec 24) - halfwayAgain.tiu.launch1).toNat = halfwayAgain.seq.altGap.toNat) ∧
    (repeating.repeatWaits = true ∧ repeating.tiu.test = .armed ∧
      ((16777000 : BitVec 24) + BitVec.ofNat 24 repeating.repeatAt - repeating.tiu.launch1).toNat = repeating.repeatAt ∧
      ((16777000 : BitVec 24) - repeating.tiu.launch1).toNat ≠ repeating.repeatAt ∧ Idx3.one ∈ repeating.shot ∧
      Dir.up ∈ repeating.shotDirs ∧ Dir.dn ∈ repeating.shotDirs) ∧
    ((before .sweep).temp.set = none ∧ (before .sweep).tiu.test = .armed ∧ (before .sweep).seq.sweepOn = false ∧ (before .sweep).launchReady = true ∧
      (before .sweep).seq.kind = .sweep ∧ (before .sweep).seq.jobs = []) ∧
    ((before .normal).seq.sweepOn = false ∧ (before .normal).seq.kind ≠ .sweep) ∧
    ((sweeping 255).temp.set = none ∧ (sweeping 255).tiu.test = .armed ∧ (sweeping 255).seq.sweepOn = true ∧ (sweeping 255).seq.phase = .none ∧
      (sweeping 255).clk.onRef = true ∧ (sweeping 255).seq.pfStop = false ∧ (sweeping 255).seq.sweepIdx < 256) ∧
    ((sweeping 256).temp.set = none ∧ (sweeping 256).tiu.test = .armed ∧ (sweeping 256).seq.sweepOn = true ∧ 256 ≤ (sweeping 256).seq.sweepIdx) := by
  decide +kernel

/-- A cycle whose conversions are in hand and whose read session is open, one of its paths failed or not. -/
def converted (bad : Bool) : State := { up with
  bkd := { up.bkd with shadow := some TimeRegs.reset, readers := 1 }
  seq := { up.seq with phase := .launched, fired := ⟨true, false, false⟩ }
  tiu := { up.tiu with paths := ⟨{ halfway.tiu.paths.p1 with failed := bad }, TiuPath.reset, TiuPath.reset⟩ } }

theorem witness_CycleReachesItsSnapshot : ∀ bad : Bool,
    (converted bad).suspendedReady = false ∧ (converted bad).conversionsIn = true ∧ (converted bad).start.phase = .running ∧
    (converted bad).seq.kind = .normal ∧ (converted bad).bkd.shadow = some TimeRegs.reset ∧ (converted bad).repeats = bad := by decide +kernel

/-- A suspended cycle whose voltage is acknowledged. -/
def suspendedCycle : State := { converted false with
  clk := { up.clk with onRef := false, declared := false, absent := true }
  seq := { up.seq with phase := .before, kind := .suspended, acked := true } }

/-- A cycle of a sweep whose conversions are in hand. -/
def sweptCycle (n : Nat) (reset : Bool) : State := { converted false with
  seq := { (converted false).seq with kind := .sweep, sweepOn := true, sweepIdx := n }
  ag := { up.ag with noResult := reset } }

theorem witness_CycleReachesItsSnapshot_kinds :
    (suspendedCycle.start.phase = .running ∧ suspendedCycle.bkd.shadow = some TimeRegs.reset ∧ suspendedCycle.suspendedReady = true ∧
      suspendedCycle.seq.sweepOn = false ∧ suspendedCycle.pathUsed .one = true) ∧
    (∀ n ∈ [1, 255, 256], ∀ reset : Bool, let s := sweptCycle n reset
     s.start.phase = .running ∧ s.bkd.shadow = some TimeRegs.reset ∧ s.suspendedReady = false ∧ s.conversionsIn = true ∧ s.seq.kind = .sweep ∧
     s.seq.sweepOn = true ∧ s.seq.sweepIdx = n ∧ s.ag.noResult = reset) := by decide +kernel

/-- A device with a deferred TIME SET. -/
def deferring : State := { up with seq := { up.seq with deferred := some beforeEight } }

/-- A device whose TSREF reading at S03 is 1000 ohm, as the image says. -/
def refFits : State := { up with straps := { up.straps with tsrefOhm := 1000 } }

/-- A device with a gap job running. -/
def jobbing (j : Job) : State := { up with seq := { up.seq with job := some j } }

/-- A member in Basalt mode. -/
def basaltMember : State := { member with start := { up.start with phase := .basalt } }

theorem witness_JobsFallDueAndComplete :
    (refFits.cycling = true ∧ refFits.temp.mismatch = false ∧ refFits.tsrefMismatch = false ∧ refFits.conf.sweepInterval.isSome = true ∧
      refFits.start.agOut = false ∧ refFits.inSweep = false) ∧
    (up.cycling = true ∧ up.temp.mismatch = false ∧ up.tsrefMismatch = true) ∧
    ({ up with conf := { up.conf with sweepInterval := none } }.conf.sweepInterval = none) ∧
    (deferring.cycling = true ∧ deferring.seq.deferred = some beforeEight ∧ deferring.inSweep = false) ∧
    ((List.replicate 24 raw0).length = 24 ∧ ([] : List SlotRaw).length ≠ 24 ∧ (jobbing .full).seq.job = some .full ∧ (jobbing .full).temp.set = none ∧
      (jobbing .full).seq.phase = .none ∧ (jobbing .full).power.heldMgmt = none) ∧
    ((jobbing .gain).seq.job = some .gain ∧ (jobbing .gain).seq.phase = .none ∧ (jobbing .gain).power.parked = none ∧
      (jobbing .gain).power.latchedState = none ∧ (jobbing .gain).power.heldMgmt = none) ∧
    ((jobbing .inl).seq.job = some .inl ∧ (jobbing .inl).seq.phase = .none ∧ (jobbing .inl).power.parked = none ∧
      (jobbing .inl).power.latchedState = none ∧ (jobbing .inl).power.heldMgmt = none) ∧
    (basaltMember.start.phase = .basalt ∧ basaltMember.role ≠ .standAlone ∧ basaltMember.clk.core = true ∧ basaltMember.bkd.commits = [] ∧
      basaltMember.bkd.shadow = none ∧ basaltMember.bkd.readers = 0) := by decide +kernel

/-- A member whose newest snapshot is unsaved, with the management core in reset. -/
def unsaved : State := { member with
  mem := { up.mem with known := true, density := 1048576 }
  save := { up.save with current := false }
  hmc := Hmc.reset }

/-- A cycle past its launch when the power-fail warning came. -/
def failing : State := { converted false with seq := { (converted false).seq with pfStop := true } }

/-- A member past its launch, before a warning comes. -/
def launchedMember : State := { unsaved with seq := { up.seq with phase := .launched } }

theorem witness_PowerFailStopsCycles :
    (up.linkSupply = false ∧ up.phy.powerFail = false) ∧
    (let s : State := { member with start := State.reset.start }
     s.linkSupply = true ∧ s.phy.powerFail = false ∧ s.cyclesRun = false) ∧
    (unsaved.linkSupply = true ∧ unsaved.phy.powerFail = false ∧ unsaved.cyclesRun = true ∧ unsaved.seq.phase = .none ∧ unsaved.seq.job = none ∧
      unsaved.seq.sweepOn = false ∧ unsaved.power.heldMgmt = none ∧ unsaved.power.trans = .none ∧ unsaved.mem.usable = true ∧ unsaved.save.current = false ∧
      unsaved.mem.busy = none ∧ unsaved.mem.suspended = [] ∧ unsaved.mem.queue = [] ∧ unsaved.eva.queue.length < 31) ∧
    (launchedMember.linkSupply = true ∧ launchedMember.phy.powerFail = false ∧ launchedMember.cyclesRun = true ∧ launchedMember.inPair = true ∧
      launchedMember.inSweep = false) ∧
    (let s : State := { unsaved with seq := { up.seq with phase := .before } }
     s.linkSupply = true ∧ s.phy.powerFail = false ∧ s.cyclesRun = true ∧ s.inPair = false) ∧
    (failing.seq.pfStop = true ∧ failing.seq.phase ≠ .none ∧ failing.power.heldMgmt = none) ∧
    (let s : State := { member with phy := { member.phy with powerFail := true } }
     s.phy.powerFail = true ∧ s.cyclesRun = true ∧ s.power.parked = none ∧ s.power.latchedState = none ∧ s.power.trans = .none) ∧
    (up.cycling = true ∧ up.linkSupply = false ∧ up.save.lowArmed = true) ∧
    (let s : State := { up with mem := unsaved.mem }
     s.mem.usable = true ∧ s.mem.busy = none ∧ s.mem.suspended = [] ∧ s.mem.queue = [] ∧ s.eva.queue.length < 31) := by decide +kernel

/-! ## Witnesses: receive lanes, stamps -/

/-- A device whose path 1 receives upstream in a window from grid unit 100 to 401, in a phase. -/
def lane (ph : LanePhase) : State := { halfway with
  conf := up.conf
  afe := ⟨{ AfePath.reset with dirs := ⟨{ AfeDir.reset with phase := ph }, AfeDir.reset⟩ }, AfePath.reset, AfePath.reset⟩ }

theorem witness_ReceiveLaneOpensAndFires :
    (lane .waiting).lane .one .up = { AfeDir.reset with phase := .waiting } ∧
    (99 < ((lane .searching).win .one .up).openQ ∧ ((lane .searching).win .one .up).closeQ ≤ 401) ∧
    (((lane .searching).win .one .up).openQ ≤ 100 ∧ 400 < ((lane .searching).win .one .up).closeQ ∧
      ((lane .searching).lane .one .up).phase = .searching ∧ ((lane .searching).lane .one .up).irregular = false) ∧
    (400 < ((lane .armed).win .one .up).closeQ ∧ ((lane .armed).lane .one .up).phase = .armed) ∧
    (((lane .stamping).lane .one .up).phase ≠ .idle ∧ ((lane .stamping).lane .one .up).phase ≠ .released) ∧
    (let s : State := { lane .armed with tiu := { (lane .armed).tiu with
        slots := { Slot.reset with use := .stamp .one .up 3 } :: List.replicate 23 Slot.reset } }
     0 < 24 ∧ (s.tiu.slot 0).use = .stamp .one .up 3 ∧ (s.lane .one .up).phase ≠ .idle ∧ (s.lane .one .up).phase ≠ .released) ∧
    ((lane .waiting).inPair = true ∧ (lane .waiting).seq.fired.get .one = true ∧ ((lane .waiting).afe.get .one).drive = false) ∧
    (let s : State := { lane .waiting with afe := (lane .waiting).afe.set .one { AfePath.reset with drive := true } }
     s.inPair = true ∧ s.seq.fired.get .one = true ∧ (s.afe.get .one).drive = true) := by decide +kernel

/-- A direction that counts half-periods from grid unit 1000. -/
def counting : AfeDir := { AfeDir.reset with phase := .counting, edge := 1000 }

theorem witness_FlipIsFoundByItsLength : counting.phase = .counting ∧ (0 : Nat) < 48 ∧
    (∀ q ∈ [1034, 1062], counting.edge ≤ q ∧ 70 * 48 ≤ 100 * (q - counting.edge) ∧ 100 * (q - counting.edge) ≤ 130 * 48) ∧
    (∀ q ∈ [1077, 1115], counting.edge ≤ q ∧ 160 * 48 ≤ 100 * (q - counting.edge) ∧ 100 * (q - counting.edge) ≤ 240 * 48) ∧
    (∀ q ∈ [1033, 1063, 1076, 1116], counting.edge ≤ q ∧
      ¬ (70 * 48 ≤ 100 * (q - counting.edge) ∧ 100 * (q - counting.edge) ≤ 130 * 48) ∧
      ¬ (160 * 48 ≤ 100 * (q - counting.edge) ∧ 100 * (q - counting.edge) ≤ 240 * 48)) := by decide

/-- The calibration record of slot 0 in Table 7.16, with the INL points that Table 7.17 uses. -/
def cal716 : CalRec := { c1x16 := 87520, c2x16 := 961632, sdX16 := 0, atS := 0, inl := [0, 0, 328, 376] ++ List.replicate 28 0 }

/-- Slot 0 of Table 7.16 charged by the crossing of Table 7.17. -/
def charged : State := { up with tiu := { up.tiu with
  launch1 := 16776000
  slots := { Slot.reset with cal := cal716, use := .charged .one .up 1 5515 } :: List.replicate 23 Slot.reset } }

theorem witness_ConversionGivesAStampOrRetires :
    ((charged.tiu.slot 0).use = .charged .one .up 1 5515 ∧ charged.sarTurn 0 = true ∧ charged.tiu.slots.length = 24) ∧
    (let r := (charged.tiu.slot 0).cal.read (11140 : BitVec 16).toNat charged.free
     let rel := relTicks (stampOf (164 : BitVec 24).toNat r.x) (charged.launchOf .up)
     checkCause r rel (some 5515) true = none ∧ checkCause r rel (some 5515) false = some 6) ∧
    checkCause ((charged.tiu.slot 0).cal.read 0 charged.free) 0 (some 5515) true = some 4 ∧
    checkCause ((charged.tiu.slot 0).cal.read 11140 charged.free)
      (relTicks (stampOf 165 ((charged.tiu.slot 0).cal.read 11140 charged.free).x) (charged.launchOf .up)) (some 5515) true = some 5 := by decide

/-- A test that has started at grid unit 40. -/
def testing : State := { up with tiu := { up.tiu with test := .started 23 22 40 } }

theorem witness_DirectTestEdges : up.cycling = true ∧ up.awake = true ∧ up.clk.onRef = true ∧ up.tiu.test = .armed ∧
    up.tiu.testSlots = some (23, 22) ∧ testing.cycling = true ∧ testing.awake = true ∧ testing.tiu.test = .started 23 22 40 ∧ 40 + 8 ≤ 48 := by
  decide +kernel

/-- A device in the conversions of a test, with these slots charged for it. -/
def testConverting (ks : List (Nat × SlotUse)) (x y : Option Nat) : State := { up with tiu := { up.tiu with
  test := .converting 23 22 x y
  slots := (List.range 24).map (fun j => { Slot.reset with
    cal := cal716, use := ((ks.find? (fun k => k.1 == j)).map Prod.snd).getD .free }) } }

/-- The stamp that the reading of Table 7.17 gives. -/
def stamp717 : Nat := stampOf 164 (cal716.read 11140 0).x

/-- No reference or no slot at the first edge; a launch that needs a slot of the test. -/
theorem witness_DirectTestEdges_busy :
    (let s : State := { up with clk := { up.clk with onRef := false } }
     s.cycling = true ∧ s.awake = true ∧ s.tiu.test = .armed ∧ s.clk.onRef = false) ∧
    (let s : State := { up with tiu := { up.tiu with slots := List.replicate 24 { Slot.reset with state := 2 } } }
     s.cycling = true ∧ s.awake = true ∧ s.tiu.test = .armed ∧ s.clk.onRef = true ∧ s.tiu.testSlots = none) ∧
    (let k := ((before .normal).slotsOf .one .up).headD 0
     let s : State := { before .normal with tiu := { up.tiu with test := .started k 22 40 } }
     s.launchReady = true ∧ s.seq.kind = .normal ∧ s.temp.set = none ∧ s.fires .one = true ∧ k ∈ s.slotsOf .one .up) := by decide +kernel

/-- The first conversion of a test, and the second of either slot: the interval at 65 536 ticks and below; a check that fails. -/
theorem witness_DirectTestEdges_conversions :
    (let s := testConverting [(22, .testStop 90), (23, .testStart 40)] none none
     s.tiu.slots.length = 24 ∧ s.sarTurn 22 = true ∧ (s.tiu.slot 22).use = .testStop 90 ∧ s.tiu.test = .converting 23 22 none none ∧
     checkCause ((s.tiu.slot 22).cal.read 11140 s.free) 0 none true = none ∧ (s.tiu.slot 23).use.isTest = true) ∧
    (∀ i ∈ [65535, 65536], let s := testConverting [(23, .testStart 40)] none (some (stamp717 + i))
     s.sarTurn 23 = true ∧ (s.tiu.slot 23).use = .testStart 40 ∧ (∀ j, j < 24 → j ≠ 23 → (s.tiu.slot j).use.isTest = false) ∧
     checkCause ((s.tiu.slot 23).cal.read 11140 s.free) 0 none true = none ∧ (stamp717 + i + 2 ^ 39 - stamp717) % 2 ^ 39 = i) ∧
    (let s := testConverting [(22, .testStop 90)] (some (2 ^ 39 - 1)) none
     s.sarTurn 22 = true ∧ (s.tiu.slot 22).use = .testStop 90 ∧ (∀ j, j < 24 → j ≠ 22 → (s.tiu.slot j).use.isTest = false) ∧
     (checkCause ((s.tiu.slot 22).cal.read 11140 s.free) 0 none false).isSome = true) := by decide +kernel

/-! ## Witnesses: flow, temperature, energy -/

/-- A path in a state since the cycle that began at 0, its last pair not VALID in a cycle that began at a count of LF periods. -/
def holding (st : PathState) (now : BitVec 32) : State := { up with
  fe := { up.fe with paths := ⟨{ FePath.reset with state := st, pair := .afe, pairBegin := now, lastBegin := some 0, v0 := some 5 },
    FePath.reset, FePath.reset⟩ } }

theorem witness_HoldExpiryInvalidatesThePath :
    ((holding .valid 0).fe.paths.get .one).state ≠ .held ∧
    (let s := holding .held 262143
     let f := s.fe.paths.get .one
     f.since f.pairBegin < s.conf.holdS * 32768) ∧
    (let s := holding .held 262144
     let f := s.fe.paths.get .one
     f.state = .held ∧ s.inPair = false ∧ s.conf.holdS * 32768 ≤ f.since f.pairBegin ∧ f.pair ≠ .conversion ∧ f.pair ≠ .valid ∧
     s.flags.length = 16) := by decide +kernel

/-- A conversion set under way on slot 0 of Table 7.16, with these discharges left. -/
def discharging (left : List (Option (Fin 4))) : TempSet := { left := left, refTimes := [], times := [], restarted := false, ofSweep := false }

/-- The device that makes it. -/
def inSet (left : List (Option (Fin 4))) : State := { charged with
  temp := { up.temp with set := some (discharging left) }
  tiu := { charged.tiu with loan := some 0 } }

theorem witness_DischargesOfASet :
    (∀ left, (inSet left).temp.set = some (discharging left) ∧ (inSet left).tiu.loan = some 0) ∧
    (discharging [none, some 0]).left = none :: some 0 :: [] ∧ (discharging [some 0, some 1, none]).left = some 0 :: some 1 :: [none] ∧
    (let r := ((inSet [none, some 0]).tiu.slot 0).cal.read (11140 : BitVec 16).toNat (inSet [none, some 0]).free
     checkCause r 0 none true = none ∧ relTicks (stampOf (1164 : BitVec 24).toNat r.x) ((164 : BitVec 24).toNat) ≤ 157286400 ∧
     ¬ relTicks (stampOf (5164 : BitVec 24).toNat r.x) ((164 : BitVec 24).toNat) ≤ 157286400) ∧
    (some (0 : Fin 4) ≠ none ∧ (discharging [none, some 0]).refTimes = []) ∧
    up.temp.set = none := ⟨fun _ => ⟨rfl, rfl⟩, rfl, rfl, by decide +kernel, by decide, rfl⟩

theorem witness_SensorStatesFollowResults : (∀ r ∈ [SensorResult.opened, .short, .range, .spread, .reference], r ≠ .ok ∧ r ≠ .mismatch) ∧
    ({ Sensor.reset with state := .ok } : Sensor).state = .ok ∧ ({ Sensor.reset with state := .fault } : Sensor).state = .fault ∧
    ({ Sensor.reset with state := .fault } : Sensor).okOnce = false ∧ ({ Sensor.reset with state := .none } : Sensor).state = .none := by decide

theorem witness_VolumeIsConserved : ({ EePipe.reset with fwdRes := 32767999, errRes := 32767 } : EePipe).fwdRes < 32768000 ∧
    ({ EePipe.reset with fwdRes := 32767999, errRes := 32767 } : EePipe).errRes < 32768 ∧ (0 : Int) ≤ 278122 := by decide

/-- A loop that meters heat and cold with a limit of 25.00 °C. -/
def both : LoopConf := { pipe := .one, flowInSupply := false, mode := 2, supplyIsSecond := false, coldMax100 := 2500 }

theorem witness_LoopIntegratesByItsRow : ((-278122 : Int) * 8192 ≤ 0) ∧ (0 < (278122 : Int) * 8192) ∧ both.mode ≠ 1 ∧ both.mode ≠ 0 ∧ both.mode ≤ 2 ∧
    (249999 : Int) < 100 * both.coldMax100 ∧ 100 * both.coldMax100 ≤ (250000 : Int) := by decide

/-- A device with pulses pending on PULSE_A, the hour of drops opened at device second 400 or not open, at device second `now`. -/
def pulsing (pending : BitVec 16) (phase : PulsePhase) (hour : Option (BitVec 32)) (now : BitVec 32) : State := { up with
  ee := { up.ee with padA := { pending := pending, phase := phase, hourAt := hour } }
  bkd := { up.bkd with time := { up.bkd.time with deviceS := now } } }

theorem witness_PulsesAreCountedAndDropsLogged :
    ((5 : BitVec 64).toNat ≤ (9 : BitVec 64).toNat ∧ (9 : BitVec 64).toNat ≤ (20 : BitVec 64).toNat) ∧
    (((pulsing 65530 .idle none 0).ee.pad false).pending.toNat + 5 ≤ 65535) ∧
    (65535 < ((pulsing 65530 .idle none 0).ee.pad false).pending.toNat + 6 ∧ ((pulsing 65530 .idle none 0).ee.pad false).hourAt = none) ∧
    (((pulsing 65530 .idle (some 400) 4000).ee.pad false).hourAt = some 400 ∧ 3600 ≤ ((pulsing 65530 .idle (some 400) 4000).now - 400).toNat) ∧
    ((pulsing 65530 .idle (some 400) 3999).now - 400).toNat < 3600 := by decide

/-- A device with a closed hour of cutoff changes on pipe 1. -/
def hourPassed : State := { pulsing 0 .idle (some 400) 4000 with
  fe := { up.fe with pipes := ⟨{ FePipe.reset with hourAt := some 400, hourCount := 3 }, FePipe.reset, FePipe.reset⟩ } }

theorem witness_PulsesAndHours :
    (((pulsing 7 .high none 0).ee.pad false).phase = .high ∧ ((pulsing 7 .high none 0).ee.pad false).pending ≠ 0) ∧
    (let s := pulsing 0 .high none 0
     (s.ee.pad false).phase = .high ∧ (s.ee.pad false).pending = 0 ∧ (s.ee.pad true).phase ≠ .high ∧ (s.ee.pad true).phase ≠ .low ∧
     s.seq.phase = .none) ∧
    (((pulsing 0 .low none 0).ee.pad false).phase = .low ∧ (pulsing 0 .low none 0).power.parked = none ∧ (pulsing 0 .low none 0).power.latchedState = none ∧
      ((pulsing 0 .low none 0).ee.pad false).pending = 0) ∧
    (((pulsing 7 .low none 0).ee.pad false).phase = .low ∧ ((pulsing 7 .low none 0).ee.pad false).pending ≠ 0 ∧ (pulsing 7 .low none 0).pulseFits = true ∧
      (pulsing 7 .low none 0).power.parked = none ∧ (pulsing 7 .low none 0).power.latchedState = none ∧ (pulsing 7 .low none 0).cycling = true) ∧
    ((up.ee.pad false).phase ≠ .high ∧ (up.ee.pad false).phase ≠ .low) ∧
    ((hourPassed.ee.pad false).hourAt = some 400 ∧ 3600 ≤ (hourPassed.now - 400).toNat) ∧
    ((hourPassed.fe.pipes.get .one).hourAt = some 400) := by decide +kernel

/-- A device that analyses a sweep with too few samples. -/
def fewSamples : State := { up with ag := { up.ag with analysing := true, series := .const [some 0] } }

/-- Whether an analysis is valid, as the statement says it. -/
def analysisValid (s : State) : Bool :=
  [agatePipe s .one, agatePipe s .two, agatePipe s .three].any (fun r => r.result == .none || r.result == .found)

theorem witness_AnalysisGivesItsResult : fewSamples.ag.analysing = true ∧ fewSamples.power.parked = none ∧ fewSamples.power.latchedState = none ∧
    analysisValid fewSamples = false := by decide

/-! ## Witnesses: management core, reference, DEEP SLEEP -/

/-- A device whose compensation differs from the one in force, with an integrated cycle and its strobe behind it, and a tick a second
ago or none yet. -/
def mistuned (tick : Option (BitVec 32)) (now : BitVec 32) : State := { up with
  bkd := { up.bkd with compPpb := 20000, strobe := true, time := { up.bkd.time with deviceS := now } }
  hmc := { up.hmc with tickS := tick }
  ee := { up.ee with lastIntS := some 17 } }

/-- Whether a tick is taken, as the statement computes it. -/
def takesTick (s : State) : Bool :=
  s.hmc.on && s.cycling && (match s.hmc.tickS with
    | some x => decide (1 ≤ (s.now - x).toNat)
    | none => s.bkd.strobe) && s.power.state != .deep && s.power.state != .off

/-- Sensor readings. -/
def readings : Sensors := ⟨2500, 3600, 3000, 3300, 900⟩

/-- The free correction of the die temperature (log entry 81) decides whether the two conditions on the die temperature and on the
compensation hold; a state with a gain calibration far from any reading, and one with a compensation far from any, meet them. -/
theorem witness_ManagementTickDoesItsWork :
    (takesTick (mistuned none 9) = true ∧ takesTick (mistuned (some 8) 9) = true ∧ takesTick (mistuned (some 9) 9) = false) ∧
    ((mistuned none 9).awake = true ∧ (mistuned none 9).power.trans = .none ∧ (mistuned none 9).seq.phase = .none ∧
      (mistuned none 9).prq.vdrv = false ∧ (mistuned none 9).ee.lastIntS = some 17) ∧
    (let s : State := { asleep with bkd := (mistuned none 9).bkd }
     takesTick s = true ∧ s.awake = false) ∧
    takesTick basaltUp = false ∧
    (let s : State := { mistuned none 9 with mem := { up.mem with known := true, density := 1048576 }, save := { up.save with due := true } }
     takesTick s = true ∧ s.mem.usable = true ∧ s.save.due = true ∧ s.mem.busy = none ∧ s.mem.suspended = [] ∧ s.mem.queue = [] ∧
     s.eva.queue.length < 8 ∧ s.hmc.dogLog = 0 ∧ ∀ p, (s.fe.pipes.get p).hourAt = none ∧ (s.fe.pipes.get p).hourClosed = []) ∧
    (mistuned none 9).mem.usable = false := by
  refine ⟨by decide +kernel, by decide +kernel, by decide +kernel, by decide +kernel, ?_, by decide⟩
  refine ⟨by decide, by decide, rfl, rfl, rfl, rfl, by decide, rfl, fun p => by cases p <;> exact ⟨rfl, rfl⟩⟩

/-- A tick that is due in a cycle, and one between cycles with VDRV on. -/
theorem witness_ManagementTickDoesItsWork_waits :
    (let s : State := { mistuned none 9 with seq := { up.seq with phase := .launched } }
     takesTick s = true ∧ s.awake = true ∧ s.power.trans = .none ∧ s.seq.phase ≠ .none) ∧
    (let s : State := { mistuned none 9 with prq := { up.prq with vdrv := true } }
     takesTick s = true ∧ s.awake = true ∧ s.power.trans = .none ∧ s.prq.vdrv = true ∧ s.seq.phase = .none ∧ s.seq.sweepOn = false ∧
     s.prq.req = none ∧ s.power.parked = none) := by decide +kernel

theorem witness_ManagementTickDoesItsWork_far : ∀ s : State, ∀ d : Int,
    150 ≤ ((s.corrected readings).die100 - ({ s with hmc := { s.hmc with dieAtCal := (s.corrected readings).die100 - 150 - d.natAbs } }).hmc.dieAtCal).natAbs ∧
    (∃ b : BitVec 24, 100 ≤ (compensation s.conf d - b.toInt).natAbs) := by
  intro s d
  refine ⟨by simp only; omega, ?_⟩
  by_cases h : compensation s.conf d < 0
  · exact ⟨100, by have : (100 : BitVec 24).toInt = 100 := by decide
                   omega⟩
  · exact ⟨BitVec.ofInt 24 (-100), by have : (BitVec.ofInt 24 (-100)).toInt = -100 := by decide
                                      omega⟩

/-- An awake device with its reference in some condition. -/
def onRc (declared absent : Bool) : State := { up with clk := { Clk.reset with core := true, refOn := true, declared := declared, absent := absent } }

/-- The counters of R18 that declare the reference. -/
def good : Presence := ⟨4096, 64, 46828⟩

/-- Whether counters declare the reference, as the statement computes it. -/
abbrev declares (p : Presence) : Prop := 4096 ≤ p.good ∧ p.periods = 64 ∧ 46875 - 47 ≤ p.cycles ∧ p.cycles ≤ 46875 + 47

/-- A device whose reference has been counted. -/
def counted (absent : Bool) (p : Presence) : State := { onRc false absent with clk := { (onRc false absent).clk with presence := p } }

/-- S05 under way. -/
def atS05 : State := { counted false good with start := { Start.reset with phase := .step 5, input := some in0 } }

/-- An exit from SLEEP that waits for the reference alone. -/
def exitWaits : State := { onRc true false with power := { up.power with trans := .exitSleep } }

theorem witness_ReferenceComesAndGoes :
    (declares good ∧ declares ⟨4096, 64, 46922⟩ ∧ ¬ declares ⟨4095, 64, 46875⟩ ∧ ¬ declares ⟨4096, 64, 46827⟩ ∧
      ¬ declares ⟨4096, 64, 46923⟩ ∧ ¬ declares ⟨4096, 63, 46875⟩) ∧
    (∀ a : Bool, (counted a good).clk.core = true ∧ (counted a good).clk.refOn = true ∧ (counted a good).clk.declared = false ∧
      (counted a good).start.phase ≠ .step 5 ∧ (counted a good).clk.absent = a ∧ (counted a good).clk.presence = good) ∧
    (atS05.clk.core = true ∧ atS05.clk.refOn = true ∧ atS05.clk.declared = false ∧ atS05.start.phase = .step 5 ∧ atS05.start.input.isSome = true ∧
      atS05.clk.presence = good) ∧
    ((onRc true false).clk.declared = true ∧ (onRc true false).clk.onRef = false ∧ (onRc true false).betweenPairs = true ∧
      (onRc true false).seq.phase = .none ∧ (onRc true false).power.trans = .none) ∧
    ({ onRc true false with seq := { up.seq with phase := .launched } }.betweenPairs = false) ∧
    (exitWaits.clk.core = true ∧ exitWaits.clk.declared = true ∧ exitWaits.clk.onRef = false ∧ exitWaits.betweenPairs = true ∧
      exitWaits.seq.phase = .none ∧ exitWaits.power.trans = .exitSleep ∧ exitWaits.prq.req = none ∧ exitWaits.power.parked = none ∧
      exitWaits.power.latchedState = none ∧ exitWaits.power.heldTick = false ∧ exitWaits.power.heldMgmt = none ∧
      exitWaits.power.state = .run ∧ exitWaits.bkd.time.alarmFlag = false) ∧
    (up.clk.core = true ∧ up.clk.onRef = true ∧ up.tiu.test = .armed ∧ up.power.parked = none ∧ up.power.latchedState = none ∧
      up.power.heldMgmt = none ∧ up.seq.phase = .none ∧
      up.seq.sweepOn = false ∧ up.seq.job = none ∧ up.prq.vdrv = false) ∧
    ((converted false).clk.core = true ∧ (converted false).clk.onRef = true ∧ (converted false).tiu.test = .armed ∧
      (converted false).power.parked = none ∧ (converted false).power.latchedState = none ∧ (converted false).power.heldMgmt = none ∧
      (converted false).inPair = true) ∧
    (∀ a : Bool, (onRc false a).cycling = true ∧ (onRc false a).seq.phase = .none ∧ (onRc false a).seq.sweepOn = false ∧
      (onRc false a).power.trans = .none ∧ (onRc false a).power.parked = none ∧ (onRc false a).power.latchedState = none ∧
      (onRc false a).power.heldMgmt = none ∧ (onRc false a).prq.vdrv = false ∧
      (onRc false a).suspendedReady = false) := ⟨by decide, by decide, by decide, by decide +kernel⟩

/-- A device in the exit from DEEP SLEEP whose VCORE settles, its Flint banks whole. -/
def settling : State := { strobing with ee := { up.ee with banksOk := true }, straps := refFits.straps }

/-- One whose save area holds a byte of no valid record. -/
def lostSaves : State := { strobing with ee := { up.ee with banksOk := false }, mem := { strobing.mem with known := true, density := 1048576, cells := [(slotBase 0, 3)] } }

/-- A device whose firmware bank A is reloaded, with a digest in use. -/
def reloading (digest : BitVec 256) : State := { onRc false false with
  power := { up.power with trans := .deepReload }
  hmc := Hmc.reset
  banks := { up.banks with fw := some .a, fwDigest := digest } }

theorem witness_DeepSleepIsLeft :
    (settling.power.trans = .deepStrobe ∧ settling.ee.banksOk = true ∧ settling.temp.mismatch = false ∧ settling.tsrefMismatch = false) ∧
    (∀ d, (reloading d).power.trans = .deepReload ∧ (reloading d).hmc.on = false ∧ (reloading d).clk.onRef = false ∧
      (reloading d).clk.absent = false ∧ (reloading d).save.dueAfterSnap = 0 ∧ (reloading d).bkd.time.alarmFlag = false ∧
      (reloading d).bkd.commits = [] ∧ (reloading d).bkd.shadow = none ∧ (reloading d).bkd.readers = 0) ∧
    (∃ d, (reloading d).banks.fw = some .a ∧ codeDigest ((reloading d).mem.codeOf .a) = (reloading d).banks.fwDigest) ∧
    (∃ d, ∀ k, (reloading d).banks.fw = some k → codeDigest ((reloading d).mem.codeOf k) ≠ (reloading d).banks.fwDigest) ∧
    (up.power.parked = none ∧ up.power.serving = false ∧ up.power.latchedState = none) := by
  refine ⟨by decide, fun _ => ⟨rfl, rfl, rfl, rfl, rfl, rfl, rfl, rfl, rfl⟩, ⟨codeDigest (up.mem.codeOf .a), rfl, rfl⟩,
    ⟨codeDigest (up.mem.codeOf .a) + 1, ?_⟩, rfl, rfl, rfl⟩
  intro k h h'
  have hk : k = .a := (Option.some.inj h).symm
  subst hk
  exact absurd (BitVec.add_right_eq_self.mp h'.symm) (by decide)

/-- The same with a queue of 31 or of 32 records and a part that serves. -/
theorem witness_DeepSleepIsLeft_queue : ∀ n ∈ [31, 32],
    let s : State := { reloading 0 with
      mem := { up.mem with known := true, density := 1048576 }, eva := { up.eva with queue := List.replicate n ⟨0, 0, 0x0101, 0⟩ } }
    s.mem.usable = true ∧ s.mem.busy = none ∧ s.mem.suspended = [] ∧ s.mem.queue = [] ∧ s.eva.queue.length = n := by decide +kernel

theorem witness_DeepSleepIsLeft_lost : lostSaves.power.trans = .deepStrobe ∧ lostSaves.ee.banksOk = false ∧
    newestSave lostSaves.mem.validSaves = none ∧
    lostSaves.mem.saveBlank = false := by decide +kernel

/-- A parked device that a matcher hit woke. -/
def parkedServing : State := { up with power := { up.power with parked := some .deep, serving := true } }

theorem witness_DeepSleepIsLeft_park : parkedServing.power.parked = some .deep ∧ parkedServing.power.serving = true ∧
    parkedServing.power.latchedState = none ∧
    State.parkReady { parkedServing with power := { parkedServing.power with serving := false } } = true := by decide

/-! ## Witnesses: the L-die -/

/-- A member where an insertion stands. -/
def inserting (x : Insertion) : State := { member with phy := { member.phy with ins := x } }

/-- A member whose insertion ends the start at S13. -/
def atS13 : State := { inserting .waitGap with start := { Start.reset with phase := .step 13, input := some in0 } }

/-- A member with a reset of LNK that waits. -/
def lnkReset : State := { member with lnk := { member.lnk with resetAfter := some 7 } }

/-- A member with a short downstream. -/
def isolated : State := { member with phy := { member.phy with passClosed := false, isolated := true, tail := true } }

/-- A head that waits for its line, and a member held by a power-fail warning. -/
def waitingHead : State := { watal with phy := { watal.phy with ins := .waitLine } }

theorem witness_MemberInsertsAndLeaves :
    ((inserting .waitLine).role = .member ∧ (inserting .waitLine).phy.ins = .waitLine ∧ (inserting .waitLine).phy.powerFail = false) ∧
    (waitingHead.role = .head ∧ waitingHead.phy.ins = .waitLine ∧ waitingHead.phy.powerFail = false) ∧
    ((inserting .waitGap).role = .member ∧ (inserting .waitGap).phy.ins = .waitGap ∧ (inserting .waitGap).phy.powerFail = false ∧
      (inserting .waitGap).start.phase ≠ .step 13) ∧
    (atS13.role = .member ∧ atS13.phy.ins = .waitGap ∧ atS13.phy.powerFail = false ∧ atS13.start.phase = .step 13 ∧ atS13.bkd.commits = []) ∧
    member.phy.ins ≠ .waitGap ∧
    (member.role = .member ∧ member.phy.ins = .inserted ∧ member.phy.passClosed = true ∧ member.lnk.resetAfter ≠ some 7 ∧
      member.linkWanted = true) ∧
    (lnkReset.phy.ins = .inserted ∧ lnkReset.phy.passClosed = true ∧ lnkReset.lnk.resetAfter = some 7) ∧
    (member.phy.isolated = false ∧ member.phy.ins ≠ .removing) ∧ isolated.phy.isolated = true := by decide +kernel

/-- A head with its injector on, inserted or not, in a phase of its start. -/
def injecting (x : Insertion) (ph : StartPhase) : State := { watal with
  phy := { watal.phy with injector := true, ins := x }
  start := { Start.reset with phase := ph, input := some in0 } }

theorem witness_HeadLineAndRepeater :
    ((injecting .inserted .running).role = .head ∧ (injecting .inserted .running).phy.injector = true ∧
      (injecting .inserted .running).start.phase ≠ .step 13 ∧ (injecting .inserted .running).phy.ins = .inserted) ∧
    (injecting .out .running).phy.ins ≠ .inserted ∧
    ((injecting .out (.step 13)).role = .head ∧ (injecting .out (.step 13)).phy.injector = true ∧
      (injecting .out (.step 13)).start.phase = .step 13 ∧ (injecting .out (.step 13)).bkd.commits = []) ∧
    member.role ≠ .head ∧ (member.phy.repeater = true ∧ member.phy.dir = none) ∧
    { member with phy := { member.phy with dir := some .ld } }.phy.dir.isSome = true := by decide

/-- A tail change that waits for the gap. -/
theorem witness_HeadLineAndRepeater_tail : ∀ b : Bool,
    { member.phy with dir := some .lu, tailNext := some b }.tailNext = some b ∧ member.phy.tailNext = none ∧ member.phy.dir = none := by decide

theorem foldl_keeps {α β : Type} (f : β → α → β) (l : List α) (a : β) (h : ∀ x ∈ l, f a x = a) : l.foldl f a = a := by
  induction l with
  | nil => rfl
  | cons x xs ih =>
    rw [List.foldl_cons, h x List.mem_cons_self]
    exact ih (fun y hy => h y (List.mem_cons_of_mem _ hy))

/-- The transform of a silent series. -/
theorem dtft_silent (ws : List Int) (phi : Int) (h : ∀ w ∈ ws, w = 0) : dtft ws phi = (0, 0) := by
  apply foldl_keeps
  intro x hx
  have : x.2 = 0 := h _ (List.of_mem_zip hx).2
  simp [this]

theorem fillGo_silent (n : Nat) : ∀ x ∈ fillGo (some 0) 0 (List.replicate n (some 0)), x = 0 := by
  induction n with
  | zero => simp [fillGo]
  | succ n ih =>
    intro x hx
    simp only [List.replicate_succ, fillGo, Int.zero_mul, List.range_zero, List.map_nil, List.nil_append, List.mem_cons] at hx
    rcases hx with h | h
    · exact h
    · exact ih x h

theorem fillSeries_silent (n : Nat) : ∀ x ∈ fillSeries (List.replicate (n + 1) (some 0)), x = 0 := by
  intro x hx
  simp only [fillSeries, List.replicate_succ, fillGo, Int.zero_mul, List.replicate_zero, List.nil_append, List.mem_cons] at hx
  rcases hx with h | h
  · exact h
  · exact fillGo_silent n x h

theorem windowed_silent (xs : List Int) (h : ∀ x ∈ xs, x = 0) : ∀ w ∈ windowed xs (meanOf xs), w = 0 := by
  have hm : meanOf xs = 0 := by
    have hs : sumI xs = 0 := foldl_keeps _ _ _ (fun x hx => by simp [h x hx])
    have h0 : (0 : Int) ≤ max 1 (xs.length : Int) := by omega
    unfold meanOf roundDivI roundDiv
    rw [hs, if_pos h0, if_pos (Int.le_refl 0)]
    exact Int.ediv_eq_zero_of_lt (by omega) (by omega)
  intro w hw
  simp only [windowed, List.mem_map] at hw
  obtain ⟨x, hx, rfl⟩ := hw
  have : x.2 = 0 := h _ (List.of_mem_zip hx).2
  simp [this, hm]

theorem analyse_silent (n : Nat) (hn : 192 ≤ n) (ref : Idx3) (d free : Nat) :
    (analyse (List.replicate n (some 0)) ref d free).result = .none := by
  obtain ⟨k, rfl⟩ : ∃ k, n = k + 1 := ⟨n - 1, by omega⟩
  have hz := windowed_silent _ (fillSeries_silent k)
  have hp : nPresent (List.replicate (k + 1) (some 0)) = k + 1 := by
    unfold nPresent
    rw [List.filter_eq_self.mpr (fun x hx => by rw [List.eq_of_mem_replicate hx]; rfl), List.length_replicate]
  have hg : maxGap (List.replicate (k + 1) (some 0)) = 0 := by
    unfold maxGap
    rw [foldl_keeps]
    intro x hx
    simp [List.eq_of_mem_replicate hx]
  have hd := fun phi => dtft_silent _ phi hz
  have hm : magOf ((0 : Int), (0 : Int)) = 0 := by decide
  unfold analyse
  simp only [hp, hg, hd, hm]
  rw [if_neg (by simp; omega), if_pos]
  simp only [Bool.or_eq_true, decide_eq_true_eq]
  exact .inr (Nat.lt_of_lt_of_le (by decide) (Nat.le_max_right _ _))

/-- A device that analyses a sweep whose velocity stands at 0, of `n` samples. -/
def steady (n : Nat) : State := { up with ag := { up.ag with analysing := true, series := ⟨List.replicate n (some 0), [], []⟩ } }

theorem witness_AnalysisGivesItsResult_valid (n : Nat) (hn : 192 ≤ n) :
    (steady n).ag.analysing = true ∧ (steady n).power.parked = none ∧ (steady n).power.latchedState = none ∧ analysisValid (steady n) = true := by
  refine ⟨rfl, rfl, rfl, ?_⟩
  have h : (agatePipe (steady n) .one).result = .none := analyse_silent n hn _ _ _
  simp [analysisValid, h]

theorem witness_AnalysisGivesItsResult_256 : analysisValid (steady 256) = true :=
  (witness_AnalysisGivesItsResult_valid 256 (by decide)).2.2.2

/-! ## Witnesses: transactions -/

/-- The conditions of `Serves` as a truth value. -/
def servesNow (s : State) (ty : BitVec 6) (f : Frame) : Bool :=
  s.hears && f.dest == s.lnk.address && (s.lnk.address != addrUnassigned || ty == typeAssign) && f.dest != addrBroadcast &&
  sound ty f && lengthFits ty f.payload && s.repeated ty f == none && s.head.outstanding == false &&
  s.saveRuns == false && s.mem.answerWaits == false && s.start.phase != .basalt && s.hmc.on

theorem serves_iff (s : State) (ty : BitVec 6) (f : Frame) : Serves s ty f ↔ servesNow s ty f = true := by
  simp only [Serves, servesNow, Bool.and_eq_true, Bool.or_eq_true, bne_iff_ne, beq_iff_eq, and_assoc]

/-- Payloads that fit their types: READ of 24 bytes of part 0, of an unknown part and of one byte too many; CLEAR of flag 5. -/
def readPart : List Byte := [0, 0, 24, 0]
def readNoPart : List Byte := [0xFF, 0, 1, 0]
def readBeyond : List Byte := [0, 1, 24, 0]
def clearOne : List Byte := [0, 0x20, 1]

theorem witness_ReadsAnswerWithoutEffect :
    Serves member typePing (frame typePing 5 []) ∧ Serves member typeIdentify (frame typeIdentify 5 []) ∧ Serves member typeStatus (frame typeStatus 5 []) ∧
    Serves member typeTimeRead (frame typeTimeRead 5 []) ∧ Serves member typeRead (frame typeRead 5 readPart) ∧
    (readPayload member.snap readPart).isSome = true ∧
    Serves member typeRead (frame typeRead 5 readNoPart) ∧ readPayload member.snap readNoPart = none ∧
    Serves member typeRead (frame typeRead 5 readBeyond) ∧ readPayload member.snap readBeyond = none := by
  simp only [serves_iff]; decide +kernel

/-- A member that keeps a response to the last request from address 256. -/
def keeps (t : BitVec 6) : State := { member with lnk := { member.lnk with cache := some ⟨256, t, 7, .trainUnit []⟩ } }

theorem witness_ReadsAnswerWithoutEffect_repeated :
    ∀ t ∈ [typePing, typeIdentify, typeRead, typeStatus, typeClear, typeAssign, typeTimeSet, typeTimeRead, typeAlarmSet, typeState,
      typeBlockReset, typeImageOpen, typeImageBlock, typeImageCommit, typeImageAbort, typeLogRead, typeClaim],
    (keeps t).hears = true ∧ sound t (frame t 5 []) = true ∧ (frame t 5 []).dest = (keeps t).lnk.address ∧
    (frame t 5 []).dest ≠ addrBroadcast ∧ (frame t 5 []).dest ≠ addrUnassigned ∧ (keeps t).repeated t (frame t 5 []) = some (.trainUnit []) := by
  decide +kernel

/-- A device in Basalt mode, one whose power-fail save is in progress, and one that checks a commit. -/
theorem witness_ReadsAnswerWithoutEffect_reach :
    let save : State := { member with mem := { up.mem with known := true, density := 1048576, busy := some (.save true 1 none) } }
    let check : State := { member with mem := { save.mem with busy := some (.imageHeader 0 [] (frame typeImageCommit 5 [])) } }
    (∀ s ∈ [basaltMember, save, check], ∀ t ∈ [(typePing, []), (typeIdentify, []), (typeStatus, []), (typeRead, readPart)],
      s.hears = true ∧ (frame t.1 5 t.2).dest = s.lnk.address ∧ sound t.1 (frame t.1 5 t.2) = true ∧ lengthFits t.1 t.2 = true ∧
      s.repeated t.1 (frame t.1 5 t.2) = none) ∧
    (basaltMember.start.phase = .basalt ∧ basaltMember.saveRuns = false ∧ basaltMember.mem.answerWaits = false) ∧
    (save.saveRuns = true ∧ save.head.outstanding = false ∧ save.hmc.on = true) ∧ check.mem.answerWaits = true := by decide +kernel

/-- A member with flag 5 set in generation 1. -/
def flagged : State := { member with flags := member.flags.set 5 ⟨true, 1, 1⟩ }

/-- A member with trusted time. -/
def trusted : State := { member with bkd := { member.bkd with time := { member.bkd.time with osf := false } } }

/-- A member in a transition. -/
def moving : State := { member with power := { member.power with trans := .exitSleep } }

/-- The payload of an ASSIGN of address 1000 to a UID. -/
def assignTo (uid : BitVec 64) (a : BitVec 10) : List Byte := be 8 uid ++ be 2 (addressWord a)

theorem witness_SettingsTakeEffect :
    (Serves flagged typeClear (frame typeClear 5 clearOne) ∧ Serves member typeClear (frame typeClear 5 [0, 0])) ∧
    (Serves member typeAssign (frame typeAssign 5 (assignTo 1 1000)) ∧ fieldN (assignTo 1 1000) 0 8 ≠ member.fuse.uid.toNat) ∧
    (∀ a ∈ [0, 1001], Serves member typeAssign (frame typeAssign 5 (assignTo 0 a)) ∧ fieldN (assignTo 0 a) 0 8 = member.fuse.uid.toNat ∧
      memberAddress (addressAt (assignTo 0 a) 8) = false) ∧
    (∀ a ∈ [1, 1000], Serves member typeAssign (frame typeAssign 5 (assignTo 0 a)) ∧ fieldN (assignTo 0 a) 0 8 = member.fuse.uid.toNat ∧
      memberAddress (addressAt (assignTo 0 a) 8) = true ∧ member.role = .member) ∧
    (Serves member typeTimeSet (frame typeTimeSet 5 [0x60, 0, 0, 1, 1, 0]) ∧ (calOf [0x60, 0, 0, 1, 1, 0]).ok = false) ∧
    (Serves member typeTimeSet (frame typeTimeSet 5 [0x59, 0, 0, 0x29, 2, 0x24]) ∧ (calOf [0x59, 0, 0, 0x29, 2, 0x24]).ok = true ∧
      member.inSweep = false ∧ member.seq.deferred = none) ∧
    (let s := { member with seq := { member.seq with sweepOn := true } }
     Serves s typeTimeSet (frame typeTimeSet 5 [0x59, 0, 0, 0x29, 2, 0x24]) ∧ s.inSweep = true) ∧
    (Serves member typeAlarmSet (frame typeAlarmSet 5 [1, 8, 0, 0]) ∧ member.bkd.time.osf = true) ∧
    (Serves trusted typeAlarmSet (frame typeAlarmSet 5 [1, 8, 0, 0]) ∧ trusted.bkd.time.osf = false ∧ alarmOf [1, 8, 0, 0] = some ⟨1, 8, 0, 0⟩) ∧
    (Serves trusted typeAlarmSet (frame typeAlarmSet 5 [3, 8, 0, 0]) ∧ alarmOf [3, 8, 0, 0] = none) := by
  simp only [serves_iff]; decide +kernel

theorem witness_SettingsTakeEffect_state :
    (∀ n ∈ [0, 1, 2, 3, 4, 5], Serves member typeState (frame typeState 5 [n]) ∧ fieldN [n] 0 1 = n.toNat) ∧
    (member.power.trans = .none ∧ member.role = .member ∧ member.mem.suspended = [] ∧ member.inSweep = false) ∧
    (Serves moving typeState (frame typeState 5 [2]) ∧ moving.power.trans ≠ .none) ∧
    (let s := { member with seq := { member.seq with sweepOn := true } }
     ∀ n ∈ [0, 1, 4], Serves s typeState (frame typeState 5 [n]) ∧ s.inSweep = true ∧ s.role = .member ∧ s.power.trans = .none) ∧
    (Serves watal typeState (frame typeState 0 [3]) ∧ fieldN [3] 0 1 = 3 ∧ watal.role = .head) := by
  simp only [serves_iff]; decide +kernel

/-- A member with a cycle under way. -/
def busyMember : State := { member with seq := { member.seq with phase := .launched } }

/-- A member whose block resets wait. -/
def resetsWait : State := { member with seq := { member.seq with resets := [1, 2, 3, 4, 5] } }

/-- A member whose MEMC writes the log. -/
def writing : State := { member with mem := { member.mem with busy := some .log } }

/-- A frame whose header check, or whose frame check, is off by one bit. -/
def badHeader (t : BitVec 6) : Frame := { frame t 5 [] with headerCheck := (frame t 5 []).headerCheck ^^^ 1 }
def badCheck (t : BitVec 6) : Frame := { frame t 5 [] with check := (frame t 5 []).check ^^^ 1 }

theorem witness_BlockResetsAndUnservedFrames :
    (∀ n ∈ [0, 7, 10, 11], Serves member typeBlockReset (frame typeBlockReset 5 [n]) ∧ fieldN [n] 0 1 = n.toNat) ∧
    (∀ n ∈ [1, 5], Serves busyMember typeBlockReset (frame typeBlockReset 5 [n]) ∧ fieldN [n] 0 1 = n.toNat ∧ busyMember.seq.phase ≠ .none) ∧
    (Serves writing typeBlockReset (frame typeBlockReset 5 [9]) ∧ fieldN [9] 0 1 = 9 ∧ writing.mem.busy ≠ none) ∧
    (resetsWait.seq.phase = .none ∧ resetsWait.power.parked = none ∧ resetsWait.power.latchedState = none ∧ resetsWait.power.heldMgmt = none ∧ ∀ r ∈ resetsWait.seq.resets, 1 ≤ r.toNat ∧ r.toNat ≤ 5) ∧
    (member.hears = true ∧ up.hears = false) := by
  simp only [serves_iff]; decide +kernel

theorem witness_BlockResetsAndUnservedFrames_blocks :
    (∀ n ∈ [6, 8], Serves member typeBlockReset (frame typeBlockReset 5 [n]) ∧ fieldN [n] 0 1 = n.toNat) ∧
    (member.ag.analysing = false ∧ member.power.parked = none ∧ member.power.latchedState = none) ∧
    (let s : State := { member with lnk := { member.lnk with resetAfter := some 7 } }
     s.seq.resets = [] ∧ s.lnk.resetAfter = some 7 ∧ s.phy.ins = .inserted) ∧
    (let s : State := { watal with lnk := { watal.lnk with resetAfter := some 7 } }
     s.seq.resets = [] ∧ s.lnk.resetAfter = some 7 ∧ s.role = .head ∧ s.linkWanted = true) := by
  simp only [serves_iff]; decide +kernel

theorem witness_BlockResetsAndUnservedFrames_judged :
    headerGood 0x3F (badHeader 0x3F) = false ∧ 240 < { frame 0x3F 5 [] with payload := zeros 241 }.payload.length ∧
    member.isFor 0x3F (frame 0x3F 6 []) = false ∧ (frame 0x3F 1023 []).dest = addrBroadcast ∧
    (∀ f ∈ [badCheck 0x3F, frame 0x3F 5 [], frame typePing 5 []], f.payload.length ≤ 240 ∧ f.dest = member.lnk.address ∧
      f.dest ≠ addrUnassigned ∧ f.dest ≠ addrBroadcast) ∧
    (headerGood 0x3F (badCheck 0x3F) = true ∧ checkGood 0x3F (badCheck 0x3F) = false) ∧
    (headerGood 0x3F (frame 0x3F 5 []) = true ∧ checkGood 0x3F (frame 0x3F 5 []) = true ∧ servedTypes.contains 0x3F = false) ∧
    (headerGood typePing (frame typePing 5 []) = true ∧ checkGood typePing (frame typePing 5 []) = true ∧
      servedTypes.contains typePing = true) := by decide +kernel

theorem witness_BroadcastsServeFiveTypes :
    (member.hears = true ∧ (frame typePing 1023 []).dest = addrBroadcast ∧ member.role = .member ∧ member.lnk.address ≠ addrUnassigned ∧
      member.head.outstanding = false ∧ member.saveRuns = false ∧ member.mem.answerWaits = false ∧ member.start.phase ≠ .basalt ∧
      member.hmc.on = true) ∧
    (let f := frame typeTimeSet 1023 [0, 0, 0, 1, 1, 0]
     sound typeTimeSet f = true ∧ f.payload.length = 6 ∧ (calOf f.payload).ok = true ∧ member.inSweep = false ∧ member.seq.deferred = none) ∧
    (let f := frame typeState 1023 [3]
     sound typeState f = true ∧ f.payload.length = 1 ∧ fieldN f.payload 0 1 = 3 ∧ member.power.trans = .none ∧ member.mem.suspended = [] ∧
     member.inSweep = false) ∧
    (∀ t ∈ [typeSweep, typeEnumerate, typeNotice], sound t (frame t 1023 [0xFF, 0xC0, 0, 0]) = true ∧
      (frame t 1023 [0xFF, 0xC0, 0, 0]).payload.length = 4) := by decide +kernel

theorem witness_BroadcastsServeFiveTypes_targets :
    (∀ n ∈ [0, 1, 2, 3, 4], let f := frame typeState 1023 [n]
     sound typeState f = true ∧ f.payload.length = 1 ∧ fieldN f.payload 0 1 = n.toNat) ∧
    (let s : State := { member with power := { member.power with trans := .exitSleep } }
     s.power.trans ≠ .none ∧ s.hears = true) ∧
    (let s : State := { member with lnk := { member.lnk with address := addrUnassigned } }
     s.hears = true ∧ s.role = .member ∧ s.lnk.address = addrUnassigned) := by decide +kernel

theorem witness_AlarmNeedsTrustedTime : (member.strapsRead = true ∧ member.role ≠ .standAlone ∧ member.bkd.time.osf = true ∧
    member.bkd.commits = []) ∧
    (let s : State := { atTime 1 beforeEight with bkd := { (atTime 1 beforeEight).bkd with
        time := { (atTime 1 beforeEight).bkd.time with osf := true } } }
     s.strapsRead = true ∧ s.bkd.time.osf = true ∧ s.role = .standAlone ∧ s.bkd.alive = true ∧ s.bkd.alarm.mode = 1 ∧
     s.bkd.time.cal.next.isAlarm s.bkd.alarm = true ∧ s.bkd.commits = []) := by decide

/-! ## Witnesses: images and the claim -/

/-- The payload of an IMAGE OPEN. -/
def openPayload (kind bank : Byte) (n : Nat) : List Byte := [kind, bank, 0, 0] ++ beN 4 n

/-- A member with an image session of a configuration image of 168 bytes in bank A. -/
def imaging (next : Nat) (header : List Byte) (erasing : Bool) (last : Option (Nat × List Byte)) : State := { member with
  mem := { member.mem with known := true, density := 1048576 }
  img := some { firmware := false, bank := .a, length := 168, next := next, header := header, erasing := erasing, eraseFailed := false,
                lastBlock := last } }

/-- A block of four data bytes at an offset. -/
def blockAt (off : Nat) : List Byte := beN 4 off ++ [1, 2, 3, 4]

/-- A device with a request to MEMC in progress. -/
def withBusy (m : MemReq) (s : State) : State := { s with mem := { s.mem with busy := some m } }

theorem witness_ImageSessionWritesItsBank :
    (Serves (imaging 0 [] true none) typeImageOpen (frame typeImageOpen 5 (openPayload 0 0 168)) ∧ (imaging 0 [] true none).img ≠ none) ∧
    (∀ n ∈ [4, 16384], Serves member typeImageOpen (frame typeImageOpen 5 (openPayload 0 1 n)) ∧ member.img = none ∧
      openOf (openPayload 0 1 n) = some (false, .b, n)) ∧
    (openOf (openPayload 1 0 65536) = some (true, .a, 65536) ∧ openOf (openPayload 2 0 64) = none) ∧
    (let s := withBusy (.imageErase (confBase .a) 0 true) (imaging 0 [] true none)
     MemoryInv s ∧ s.mem.queue = [] ∧ s.mem.suspended = [] ∧ s.mem.resetDue = false ∧ s.lnk.resetAfter = none ∧ s.power.trans = .none ∧
     168 ≤ 65536 ∧
     s.mem.busy = some (.imageErase (confBase .a) 0 true) ∧ s.mem.usable = true ∧ s.mem.fram = false ∧
     0 < 4096 * ((168 + 4095) / 4096) ∧ confBase .a + 4096 * ((168 + 4095) / 4096) ≤ s.mem.fitted ∧
     (∀ k, k < (168 + 4095) / 4096 → s.mem.opOk (confBase .a + 4096 * k) 4096 = true)) ∧
    (let s := withBusy (.imageErase (confBase .a) 0 true) (imaging 0 [] true none)
     let f := { s with mem := { s.mem with fram := true } }
     MemoryInv f ∧ f.mem.usable = true ∧ f.mem.fram = true ∧ confBase .a + 64 ≤ f.mem.fitted ∧ f.mem.opOk (confBase .a) 64 = true) := by
  unfold MemoryInv; simp only [serves_iff]; decide +kernel

/-- A session whose erase has failed, at its next block; the header of its bank lies in the fitted part. -/
theorem witness_ImageSessionWritesItsBank_unerased :
    let i : ImgSession := { firmware := false, bank := .a, length := 168, next := 0, header := [], erasing := false, eraseFailed := true, lastBlock := none }
    let s : State := { imaging 0 [] false none with img := some i }
    Serves s typeImageBlock (frame typeImageBlock 5 (blockAt 0)) ∧ s.img = some i ∧ i.erasing = false ∧ i.eraseFailed = true ∧
    MemoryInv s ∧ s.mem.present = true ∧ i.base + 64 ≤ s.mem.fitted := by
  unfold MemoryInv; simp only [serves_iff]; decide +kernel

theorem witness_ImageSessionWritesItsBank_block :
    (let s := imaging 4 [1, 2, 3, 4] false (some (0, [1, 2, 3, 4]))
     Serves s typeImageBlock (frame typeImageBlock 5 (blockAt 0)) ∧ fieldN (blockAt 0) 0 4 = 0 ∧ (blockAt 0).drop 4 = [1, 2, 3, 4]) ∧
    (let s := imaging 4 [1, 2, 3, 4] false (some (0, [1, 2, 3, 4]))
     Serves s typeImageBlock (frame typeImageBlock 5 (blockAt 8)) ∧ some (0, [1, 2, 3, 4]) ≠ some (8, [(1 : Byte), 2, 3, 4]) ∧ fieldN (blockAt 8) 0 4 ≠ 4) ∧
    (let s := imaging 60 (zeros 60) false none
     Serves s typeImageBlock (frame typeImageBlock 5 (blockAt 60)) ∧ fieldN (blockAt 60) 0 4 = 60 ∧ 60 + 4 ≤ 168 ∧ 60 + 4 ≤ 64) ∧
    (∀ n ∈ [64, 164], let s := imaging n (zeros 64) false none
     Serves s typeImageBlock (frame typeImageBlock 5 (blockAt n)) ∧ fieldN (blockAt n) 0 4 = n ∧ n + 4 ≤ 168 ∧ 64 < n + 4) ∧
    (∀ n ∈ [60, 164], let f := frame typeImageBlock 5 (blockAt n)
     let s := withBusy (.imageBlock (confBase .a) n [1, 2, 3, 4] f) (imaging n (zeros 60) false none)
     MemoryInv s ∧ s.mem.queue = [] ∧ s.mem.suspended = [] ∧ s.mem.resetDue = false ∧ s.lnk.resetAfter = none ∧ s.power.trans = .none ∧
     s.mem.busy = some (.imageBlock (confBase .a) n [1, 2, 3, 4] f) ∧ s.mem.usable = true ∧
     s.mem.opOk (confBase .a + n + (64 - n)) ([(1 : Byte), 2, 3, 4].length - (64 - n)) = true ∧ confBase .a + n + 4 ≤ s.mem.fitted ∧
     f.dest ≠ addrBroadcast) := by
  unfold MemoryInv; simp only [serves_iff]; decide +kernel

theorem witness_ImageSessionWritesItsBank_end :
    (let s := imaging 164 (zeros 64) false none
     Serves s typeImageCommit (frame typeImageCommit 5 []) ∧ 164 ≠ 168) ∧
    (let f := frame typeImageCommit 5 []
     let s := withBusy (.imageHeader (confBase .a) (zeros 64) f) (imaging 168 (zeros 64) false none)
     MemoryInv s ∧ s.mem.queue = [] ∧ s.mem.suspended = [] ∧ s.mem.resetDue = false ∧ s.lnk.resetAfter = none ∧ s.power.trans = .none ∧
     s.mem.busy = some (.imageHeader (confBase .a) (zeros 64) f) ∧ s.mem.usable = true ∧ (zeros 64).length = 64 ∧
     s.mem.opOk (confBase .a) 64 = true ∧ confBase .a + 64 ≤ s.mem.fitted ∧ f.dest ≠ addrBroadcast ∧ s.start.phase ≠ .basalt ∧
     s.bkd.commits = [] ∧ s.mem.density ≤ s.mem.fitted ∧ s.log.next < s.mem.logSize ∧ s.save.slot < 4 ∧ s.save.first < 4 ∧
     s.save.second < 4 ∧ s.save.pos < 32) ∧
    (Serves (imaging 168 (zeros 64) false none) typeImageAbort (frame typeImageAbort 5 [])) ∧
    (Serves member typeImageAbort (frame typeImageAbort 5 []) ∧ member.img = none) := by
  unfold MemoryInv; simp only [serves_iff]; decide +kernel

/-- The erase of a sector that no session waits for any more. -/
theorem witness_ImageSessionWritesItsBank_orphan :
    let s := withBusy (.imageErase (confBase .a) 1 false) (imaging 0 [] true none)
    MemoryInv s ∧ s.mem.queue = [] ∧ s.mem.suspended = [] ∧ s.mem.resetDue = false ∧ s.lnk.resetAfter = none ∧ s.power.trans = .none ∧
    s.mem.busy = some (.imageErase (confBase .a) 1 false) := by
  unfold MemoryInv; decide +kernel

/-- A commit of a header of zeros fails its check of the magic number. -/
theorem witness_ImageSessionWritesItsBank_refused :
    (imaging 168 (zeros 64) false none).checkCommit
      { firmware := false, bank := .a, length := 168, next := 168, header := zeros 64, erasing := false, eraseFailed := false, lastBlock := none } =
    some 0x01 := by decide +kernel

/-- The payload of a CLAIM. -/
def claimPayload (h : BitVec 256) (uid : BitVec 64) : List Byte := beN 32 h.toNat ++ be 8 uid

/-- An owner hash of ones. -/
def onesHash : BitVec 256 := BitVec.allOnes 256

/-- A claimed member, and one whose claim stopped half way without its record. -/
def claimed : State := { member with fuse := { member.fuse with claim := .claimed } }
def halfClaimed : State := { member with fuse := { member.fuse with claim := .incomplete } }

theorem witness_ClaimProgramsTheOwner :
    (Serves claimed typeClaim (frame typeClaim 5 (claimPayload onesHash 0)) ∧ claimed.bkd.commits = [] ∧ claimed.fuse.words.length = 25 ∧
      claimed.fuse.claim = .claimed) ∧
    (Serves halfClaimed typeClaim (frame typeClaim 5 (claimPayload onesHash 0)) ∧ halfClaimed.fuse.claim = .incomplete ∧
      halfClaimed.bkd.claimRec ≠ some ⟨onesHash, crc8 (be 32 onesHash)⟩) ∧
    (Serves member typeClaim (frame typeClaim 5 (claimPayload onesHash 1)) ∧ member.fuse.claim = .unclaimed ∧
      fieldN (claimPayload onesHash 1) 32 8 ≠ member.fuse.uid.toNat) ∧
    (Serves member typeClaim (frame typeClaim 5 (claimPayload onesHash 0)) ∧ member.bkd.commits = [] ∧ member.fuse.words.length = 25 ∧
      fieldN (claimPayload onesHash 0) 32 8 = member.fuse.uid.toNat ∧ fieldN (claimPayload onesHash 0) 0 32 = onesHash.toNat ∧
      burnHash [] member.fuse.words onesHash = hashWords onesHash ∧
      2 ≤ ones ((member.fuse.words.getD 24 0 ||| (3 : BitVec 3).setWidth 32).extractLsb' 0 3) ∧
      ones ((member.fuse.words.getD 24 0 ||| (1 : BitVec 3).setWidth 32).extractLsb' 0 3) < 2 ∧
      firstBad 16 (burnHash [32] member.fuse.words onesHash) (hashWords onesHash) = some 17) ∧
    (∀ n ∈ [0, 1, 14, 15], Serves member typeLogRead (frame typeLogRead 5 [0, 0, 0, 0, n]) ∧ fieldN [0, 0, 0, 0, n] 4 1 = n.toNat) ∧
    (member.mem.suspended = [] ∧ member.eva.queue = [] ∧ member.mem.busy = none) := by
  simp only [serves_iff]; decide +kernel

/-- A claim that stopped half way with its record, continued with the hash recorded. -/
theorem witness_ClaimProgramsTheOwner_continued :
    let s : State := { halfClaimed with bkd := { halfClaimed.bkd with claimRec := some ⟨onesHash, crc8 (be 32 onesHash)⟩ } }
    Serves s typeClaim (frame typeClaim 5 (claimPayload onesHash 0)) ∧ s.fuse.claim = .incomplete ∧ s.bkd.commits = [] ∧
    s.fuse.words.length = 25 ∧ s.bkd.claimRec = some ⟨onesHash, crc8 (be 32 onesHash)⟩ ∧ fieldN (claimPayload onesHash 0) 32 8 = s.fuse.uid.toNat ∧
    fieldN (claimPayload onesHash 1) 32 8 ≠ s.fuse.uid.toNat := by
  simp only [serves_iff]; decide +kernel

/-- The header of a configuration image for a member with one path and one pipe (Table 4.5), its CRC-32 formed by hand. -/
def signedHeader : List Byte :=
  [90, 77, 67, 73, 0, 1, 0, 64, 0, 0, 0, 104, 0, 0, 0, 1, 0, 0, 0, 0, 0, 0, 0, 0,
   0, 0, 0, 0, 0, 2, 0, 0, 0, 0, 0, 17, 0, 0, 0, 34, 0, 0, 0, 0, 0, 0, 0, 0,
   0, 0, 0, 0, 0, 0, 0, 0, 0, 0, 0, 0, 29, 101, 51, 128]

/-- Its two sections, 0x0201 and 0x0301. -/
def signedSections : List Byte :=
  [2, 1, 0, 16, 0, 0, 234, 96, 0, 0, 156, 64, 0, 0, 0, 0, 0, 0, 0, 0, 3, 1, 0, 16,
   0, 0, 78, 32, 0, 0, 0, 0, 0, 0, 3, 232, 0, 0, 0, 0]

/-- Its SHA-256 digest, formed outside this model. -/
def signedDigest : Nat := 0xceba4ad163e45717ea3fc59da3965fae3bfdf17e21a0c296be4cb5aff0767dbf

/-- The trailer: a public key, the digest, and a signature whose r and s are the digest, which makes the check add the base point and
the key once each. -/
def signedTrailer : List Byte :=
  beN 32 0x92698fb230ab47196c63c49cad2b13cda5dd7b3d81c99c181d5a96f2b1c10de1 ++
  beN 32 0xb817423f1e41f8f5e6d6d5e8d10ef2ac4e972a56acc817862ce57dcc4043211f ++
  beN 32 signedDigest ++ beN 32 signedDigest ++ beN 32 signedDigest

/-- The session of that image, all of it received. -/
def signedSession : ImgSession :=
  { firmware := false, bank := .a, length := 264, next := 264, header := signedHeader, erasing := false, eraseFailed := false, lastBlock := none }

/-- The member that holds it. -/
def signed : State :=
  let m := { member.mem with known := true, density := 1048576 }
  { member with mem := m.program (confBase .a + 64) (signedSections ++ signedTrailer), img := some signedSession }

/-- FIPS 180-4 digest of the image's body. -/
theorem test_sha256 : natOfBe (sha256 (signedHeader ++ signedSections)) = signedDigest := by decide +kernel

theorem witness_ImageSessionWritesItsBank_passed : signed.checkCommit signedSession = none := by decide +kernel

theorem witness_ImageSessionWritesItsBank_passed_serves :
    Serves signed typeImageCommit (frame typeImageCommit 5 []) ∧ signed.img = some signedSession ∧ signedSession.eraseFailed = false ∧
    signedSession.next = signedSession.length := by
  simp only [serves_iff]; decide +kernel

/-! ## Witnesses: trains and heads -/

/-- An armed train of a kind with a turn address. -/
def train (k : TrainKind) (turn : BitVec 10) (mask : BitVec 16) : Train := { kind := k, turn := turn, mask := mask, tag := 7 }

/-- A member armed by it, with flag 5 set in the snapshot. -/
def armed (x : Train) (tail : Bool) : State := { member with
  snap := { member.snap with flags := member.snap.flags.set 5 ⟨true, 1, 1⟩ }
  lnk := { member.lnk with armed := some x }
  phy := { member.phy with tail := tail } }

theorem witness_MemberTakesPartInTrains :
    (member.role = .member ∧ member.hears = true ∧ (frame typeSweep 1023 [0xFF, 0xC0, 0, 0]).payload.length = 4 ∧
      (frame typeSweep 1023 [0xFF, 0xC0, 0, 0]).dest = addrBroadcast ∧ (frame typeSweep 5 [0xFF, 0xC0, 0, 0]).dest ≠ addrBroadcast ∧
      ∀ t ∈ [typeSweep, typeEnumerate, typeNotice], ∀ d ∈ [5, 1023], sound t (frame t d [0xFF, 0xC0, 0, 0]) = true) ∧
    (let s := armed (train .sweep 1023 0) true
     s.role = .member ∧ s.hears = true ∧ s.lnk.armed = some (train .sweep 1023 0) ∧ s.power.parked = none ∧ s.phy.tail = true ∧
     (train .sweep 1023 0).kind ≠ .notice) ∧
    (let s := armed (train .enumerate 5 0) false
     s.power.parked = none ∧ (train .enumerate 5 0).turn ≠ addrBroadcast ∧ s.lnk.address = (train .enumerate 5 0).turn) ∧
    (let s := armed (train .notice 6 0x20) false
     (train .notice 6 0x20).turn ≠ addrBroadcast ∧ s.lnk.address ≠ (train .notice 6 0x20).turn ∧ (1 : BitVec 10) ≠ 0 ∧ s.noticeDue 0x20 = true ∧
     s.noticeDue 0x40 = false ∧ s.start.phase ≠ .basalt ∧ s.lnk.address ≠ addrUnassigned) ∧
    (let s := armed (train .notice 5 0x20) false
     s.power.parked = none ∧ (train .notice 5 0x20).turn ≠ addrBroadcast ∧ s.lnk.address = (train .notice 5 0x20).turn) ∧
    (let s := { armed (train .sweep 1023 0) true with power := { up.power with parked := some .deep } }
     s.lnk.armed = some (train .sweep 1023 0) ∧ s.power.parked ≠ none) ∧
    member.lnk.armed = none := by decide +kernel

/-- A request to member 5 of a type, sent some times, of the head's own or for an upstream requester. -/
def asked (t : BitVec 6) (tries : Nat) (p : List Byte) (up : Option (BitVec 10)) : HeadReq :=
  { dest := 5, type := t, seq := 7, payload := p, tries := tries, upstream := up, woken := false, garbled := false }

/-- A Watal head that waits for a forwarded response. -/
def forwarding : State := { watal with head := { watal.head with req := some (asked typePing 1 [] (some 256)) } }

/-- A response to an address from another, with sequence 7. -/
def response (t : BitVec 6) (dest src : BitVec 10) (p : List Byte) : Frame :=
  let h := headerBytes dest src t 7 p.length
  { inverted := false, dest := dest, src := src, seq := 7, headerCheck := crc8 h, payload := p, check := crc32 (h ++ [crc8 h] ++ p) }

/-- A Watal head that relays a SWEEP. -/
def relaying : State := { watal with
  lnk := { watal.lnk with armed := some (train .sweep 1023 0) }
  head := { watal.head with train := some { kind := .sweep, units := [[1]], retried := false } } }

theorem witness_WatalHeadBridges :
    (watal.watalHead = true ∧ watal.hears = true ∧ watal.start.phase ≠ .basalt ∧ watal.head.outstanding = false) ∧
    (∀ d ∈ [1, 1000], sound typePing (frame typePing d []) = true ∧ forwards typePing (frame typePing d []).dest = true) ∧
    (sound typePing (badCheck typePing) = false ∧ forwards typePing (frame typePing 1001 []).dest = false) ∧
    (forwarding.watalHead = true ∧ forwarding.hears = true ∧ forwarding.start.phase ≠ .basalt ∧ forwarding.head.outstanding = true ∧
      forwarding.head.req = some (asked typePing 1 [] (some 256))) ∧
    (∀ nak : Bool, let ty := if nak then typeNak else typeAck
     let f := response ty 256 5 []
     sound ty f = true ∧ f.seq = 7 ∧ f.dest = 256 ∧ f.src = 5 ∧ (response ty 255 5 []).dest ≠ 256) ∧
    (relaying.watalHead = true ∧ relaying.hears = true ∧ relaying.start.phase ≠ .basalt ∧
      relaying.head.train = some { kind := .sweep, units := [[1]], retried := false } ∧ relaying.lnk.armed = some (train .sweep 1023 0) ∧
      (train .sweep 1023 0).kind ≠ .notice) ∧
    (unitGood ⟨sealed [1, 2], true⟩ = true ∧ unitGood ⟨sealed [1, 2], false⟩ = false ∧ unitGood ⟨[1, 2, 0, 0], true⟩ = false) := by
  decide +kernel

/-- An M-Bus head with a request outstanding, requests that wait, and members in its table. -/
def managing (r : Option HeadReq) (todo : List HeadReq) (ms : List Member) : State :=
  { mhead with head := { mhead.head with req := r, todo := todo, table := ms } }

/-- An M-Bus head with a SWEEP under way. -/
def gathering (retried : Bool) : State := { mhead with head := { mhead.head with
  train := some { kind := .sweep, units := [], retried := retried }
  firstSweep := some 5 } }

/-- A member at address 5 that the head has parked. -/
def parkedMember : Member := { uid := 2, address := 5, present := true, missed := 0, parked := true, asleep := false, position := 3, regs := none }

theorem witness_MbusHeadKeepsItsChain :
    (mhead.manages = true ∧ mhead.head.todo = [] ∧ mhead.head.outstanding = false ∧ mhead.head.twice addrBroadcast = false ∧
      mhead.head.parkedAt addrBroadcast = false) ∧
    (let r := asked typeRead 0 [0, 0, 24, 0] none
     let s := managing none [r] [parkedMember]
     s.manages = true ∧ s.head.todo = r :: [] ∧ s.head.outstanding = false ∧ s.head.maySend r = true ∧ s.head.parkedAt r.dest = true ∧
     r.woken = false) ∧
    (let q := asked typePing 1 [] none
     let r := { asked typeRead 0 [0, 0, 24, 0] none with woken := true }
     let s := managing (some q) [r] [parkedMember]
     s.manages = true ∧ s.head.req = some q ∧ q.upstream = none ∧ q.type = typePing ∧ s.head.train = none ∧ s.head.todo = r :: [] ∧
     s.head.maySend r = true ∧ r.woken = true) ∧
    (∀ n ∈ [1, 2, 3], let r := asked typeState n [3] none
     let s := managing (some r) [] []
     s.manages = true ∧ s.head.todo = [] ∧ s.head.req = some r ∧ r.upstream = none ∧ s.head.train = none ∧ r.onlyWakes = false ∧
     (r.tries < 3 ∨ 3 ≤ r.tries) ∧ r.type ≠ typeRead) ∧
    (let r := asked typeAssign 1 (assignTo 3 9) none
     let s := managing (some r) [] [{ uid := 2, address := 8, present := true, missed := 2, parked := false, asleep := false, position := 1, regs := none }]
     let f := response typeAck 0 9 []
     s.manages = true ∧ s.head.todo = [] ∧ s.head.req = some r ∧ r.upstream = none ∧ s.head.train = none ∧ r.type = typeAssign ∧
     sound typeAck f = true ∧ f.seq = r.seq ∧ f.dest = addrHead ∧ s.head.table.length < 1000) ∧
    (let r := { asked typeState 3 [3] none with garbled := true }
     let s := managing (some r) [] []
     s.head.req = some r ∧ r.onlyWakes = false ∧ 3 ≤ r.tries ∧ r.garbled = true ∧ memberAddress r.dest = true ∧
     s.head.parkedAt addrBroadcast = false ∧ s.head.twice addrBroadcast = false) ∧
    (∀ nak : Bool, sound (if nak then typeNak else typeAck) (badCheck typeAck) = false) ∧
    (let r := asked typeAssign 1 (assignTo 3 9) none
     ((managing (some r) [] [{ parkedMember with uid := 3 }]).head.table.find? (fun m => m.uid == 3)).isSome = true) ∧
    (∀ b : Bool, (gathering b).manages = true ∧ (gathering b).head.todo = [] ∧
      (gathering b).head.train = some { kind := .sweep, units := [], retried := b } ∧ (gathering b).head.firstSweep = some 5) := by
  decide +kernel

/-- The head's PING to the member at 5, answered with a mode byte. -/
theorem witness_MbusHeadKeepsItsChain_mode :
    let r := asked typePing 1 [] none
    let s := managing (some r) [] [parkedMember]
    let f := response typeAck 0 5 [0, 0x48, 0, 0, 0, 9]
    s.manages = true ∧ s.head.todo = [] ∧ s.head.req = some r ∧ r.upstream = none ∧ s.head.train = none ∧ r.type = typePing ∧
    sound typeAck f = true ∧ r.answeredBy f = true ∧ s.head.table.any (fun m => m.address == r.dest) = true := by decide +kernel

/-- The SWEEP record of an address, hop 0, of a kind, its volume's low part 150. -/
def recordOf (a kind : Nat) : List Byte := beN 4 (a * 2 ^ 22 + kind * 2 ^ 10) ++ zeros 6 ++ beN 3 150 ++ zeros 17

/-- A head whose table holds a member with registers read, the SWEEP of which shows it alone: its registers go on by the low part. -/
theorem witness_MbusHeadKeepsItsChain_records :
    let m : Member := { parkedMember with regs := some ⟨.anchor 100, .anchor 0, .anchor 0⟩ }
    let s : State := { mhead with head := { mhead.head with table := [m], train := some { kind := .sweep, units := [], retried := false } } }
    let records := fun (us : List TrainUnit) => ((us.filter unitGood).map TrainUnit.body).filter (fun b => unitKind b != 1)
    s.head.train.isSome = true ∧ s.head.todo = [] ∧ m ∈ s.head.table ∧ m.regs.isSome = true ∧
    (∀ k ∈ [0, 2], (records [⟨sealed (recordOf 5 k), true⟩]).filter (fun x => unitAddress x == m.address) =
      records [⟨sealed (recordOf 5 k), true⟩] ∧ (records [⟨sealed (recordOf 5 k), true⟩]).map unitKind = [k]) := by decide +kernel

/-- A member whose number is 12345678. -/
def member12345678 (a : BitVec 10) : Member := { uid := 98765424, address := a, present := true, missed := 0, parked := false, asleep := false, position := 0, regs := none }

/-- Its secondary address. -/
def address12345678 : List Byte := [0x78, 0x56, 0x34, 0x12, 0, 0, 0, 0]

/-- An M-Bus head with a selection, the FCB of its last answer and the reads of the member selected. -/
def selecting (x : Selected) (reads : PartReads) : State := { mhead with
  conf := { mhead.conf with meterId := 0x11223344 }
  head := { mhead.head with selected := x, fcb := some true, reads := reads, table := [member12345678 9, member12345678 4] } }

theorem witness_MbusSelectsAndAnswers :
    ((selecting .none .failed).manages = true ∧ (selecting .none .failed).head.selected = .none) ∧
    (let s : State := { selecting .none .failed with head := { (selecting .none .failed).head with
        table := [{ member12345678 4 with parked := true }] } }
     s.manages = true ∧ s.head.todo = [] ∧ s.head.outstanding = false ∧ s.head.twice 4 = false ∧ s.head.parkedAt 4 = true ∧
     s.matching address12345678 ≠ []) ∧
    (let s := selecting .none .failed
     let own := secondaryOf s.conf (ownNumber s.conf)
     own = [0x44, 0x33, 0x22, 0x11, 0, 0, 0, 0] ∧ address12345678 ≠ own ∧ s.matching address12345678 ≠ [] ∧
     1 < (s.matching address12345678).length ∧ s.matching [] = []) ∧
    ((selecting .self .failed).manages = true ∧ (selecting .self .failed).head.selected ≠ .none ∧ (selecting .self .failed).head.fcb = some true ∧
      (selecting .self .failed).head.fcb ≠ some false ∧ (newRsp (selecting .self .failed)).isSome = true) ∧
    (let got : List (Byte × List Byte) := [(0, []), (5, []), (7, []), (8, [])]
     (selecting (.member 4) (.pending got)).head.reads = .pending got ∧ got.find? (fun x => x.1 == 0) = some (0, []) ∧
     got.find? (fun x => x.1 == 5) = some (5, []) ∧ got.find? (fun x => x.1 == 7) = some (7, []) ∧ got.find? (fun x => x.1 == 8) = some (8, [])) ∧
    (let got : List (Byte × List Byte) := [(0, []), (5, []), (7, [])]
     (selecting (.member 4) (.pending got)).head.reads = .pending got ∧ got.find? (fun x => x.1 == 8) = none) := by decide +kernel

theorem witness_MbusSelectsAndAnswers_none : (∀ got, (selecting .self .failed).head.reads ≠ .pending got) ∧
    newRsp (selecting (.member 7) .failed) = none := by
  refine ⟨fun got => by simp [selecting], by decide +kernel⟩

/-! ## Witnesses: invariants -/

theorem witness_EveryStepKeepsTheInvariant : Inv up ∧ (∃ t, step { up with pending := [.sessionLimit] } = .next t) ∧
    Inv { up with pending := [.sessionLimit] } := by
  refine ⟨?_, ⟨_, rfl⟩, ?_⟩ <;> (unfold Inv MemoryInv; decide)

/-! ## Checks against the spec's worked examples -/

/-- The UID of lot 0x4A1C07, wafer 13, die 42/17 (chapter 05). -/
theorem test_uid : uidOf [0x4A1C0768, 0x2A110000] = 0x36244A1C0769508F := by decide

/-- The strap counts of chapter 03: 25.0 Ω is code 0, 1025.0 Ω code 1, an open pad code 7. -/
theorem test_strap_codes : readCode 2094862 5237 = some 0 ∧ readCode 2094862 214723 = some 1 ∧ readCode 2094862 209486200 = some 7 := by decide

/-- Ledger word 0 of member 57 in Table 5.9: 0x10DF0020 after a good start, 0x11770A20 and 0x12770AC0 after its failures. -/
theorem test_ledger_words :
    { Ledger.reset with stepReached := 13, resetCause := 1 }.word0 = 0x10DF0020 ∧
    { Ledger.reset with stepReached := 7, stepFailed := 7, failReason := 0x0A, failCount := 1, resetCause := 1 }.word0 = 0x11770A20 ∧
    { Ledger.reset with stepReached := 7, stepFailed := 7, failReason := 0x0A, failCount := 2, resetCause := 6 }.word0 = 0x12770AC0 := by decide

/-- The body of the DN50 image in chapter 04, from 0x40: it has the structure and fields of checks 9 and 10, and parses to the settings
named beside it. -/
def dn50 : List Byte :=
  [0x00, 0x01, 0x00, 0x10, 0x24, 0x00, 0x73, 0x15, 0x47, 0x58, 0x01, 0x04, 0x44, 0x4E, 0x35, 0x30, 0x2D, 0x48, 0x31, 0x20,
   0x02, 0x00, 0x00, 0x10, 0x00, 0x10, 0x03, 0xE8, 0x13, 0x88, 0x01, 0x90, 0x18, 0xC8, 0x12, 0x0C, 0x00, 0x00, 0x00, 0x00] ++
  [0x02, 0x01, 0x00, 0x10, 0x00, 0x01, 0x19, 0xBD, 0x00, 0x00, 0xC7, 0x38, 0x00, 0x0E, 0x66, 0x66, 0x00, 0x00, 0x00, 0x00,
   0x03, 0x01, 0x00, 0x10, 0x00, 0x00, 0xC7, 0x38, 0x27, 0x10, 0x00, 0x00, 0x00, 0x00, 0x03, 0xE8, 0x00, 0x00, 0x00, 0x00] ++
  [0x05, 0x01, 0x00, 0x08, 0x01, 0x00, 0x00, 0x00, 0x09, 0xC4, 0x00, 0x00,
   0x06, 0x00, 0x00, 0x10, 0x00, 0x00, 0x00, 0x00, 0x00, 0x0F, 0x42, 0xF4, 0x00, 0x78, 0x00, 0x78, 0x00, 0x00, 0x00, 0x00]

theorem test_dn50_image : structureOk false 6 (zeros 64 ++ dn50) = true ∧ (bodySections (zeros 64 ++ dn50)).all fieldsOk = true ∧
    strapsOk (some 7) (some 7) (bodySections (zeros 64 ++ dn50)) = true ∧ strapsOk (some 0) (some 1) (bodySections (zeros 64 ++ dn50)) = false := by
  decide +kernel

/-- The configuration of that image. -/
def dn50Conf : Conf := parseConf false (bodySections (zeros 64 ++ dn50))

theorem test_dn50_conf : dn50Conf.meterId = 0x24007315 ∧ dn50Conf.burst = 16 ∧ dn50Conf.freqKhz = 1000 ∧ dn50Conf.fixedGainDb = 18 ∧
    dn50Conf.stamps = 12 ∧ dn50Conf.paths.p1 = ⟨72125, 51000, 943718, 0⟩ ∧ dn50Conf.pipes.p1.diameterUm = 51000 ∧ dn50Conf.pipes.p1.w1 = 10000 ∧
    dn50Conf.refMohm = 1000180 ∧ dn50Conf.leads = [120, 120, 0, 0] ∧ dn50Conf.cyclePeriod = 8192 ∧ dn50Conf.loopB = none ∧
    dn50Conf.loopA.coldMax100 = 2500 := by decide +kernel

/-- Path 1 of the DN50 meter: h_q 48, f 7, 12 stamps (chapter 06). -/
theorem test_dn50_stamps : dn50Conf.hq = 48 ∧ dn50Conf.flipChip .one = 7 ∧ dn50Conf.nUsed .one = 12 := by decide +kernel

/-- Slot 1 of Table 7.16 with the INL points that Table 7.17 uses. -/
def cal716b : CalRec := { c1x16 := 87168, c2x16 := 960816, sdX16 := 0, atS := 0, inl := List.replicate 19 0 ++ [-176, -152] ++ List.replicate 11 0 }

/-- Table 7.17: both conversions, their stamps and ticks; a code of 65 535 fails the range check. -/
theorem test_stamps_of_table_7_17 : cal716.read 11140 0 = ⟨true, 3355⟩ ∧ cal716b.read 39074 0 = ⟨true, 20201⟩ ∧
    stampOf 164 3355 = 5337829 ∧ stampOf 164 20201 = 5320983 ∧ relTicks 5337829 16776000 = 45183717 ∧ relTicks 5320983 16776000 = 45166871 ∧
    gridOk 45183717 5515 = true ∧ gridOk 45166871 5513 = true ∧ checkCause (cal716b.read 65535 0) 0 none true = some 4 := by decide

/-- The conversion of Table 7.17 as a command: stamp 1 of upstream is 45 183 717 ticks. -/
theorem test_conversion_done : ∃ t, exec (.conversionDone 0 11140 164 true) charged = .next t ∧ (t.win .one .up).stamps = [⟨1, 0, .ok, some 45183717⟩] :=
  ⟨_, rfl, by decide⟩

/-- Table 8.6 and Table 8.7: tracked windows close at 9 933 and 9 981 grid units, and L2 is 4 991 reference periods after L1. -/
theorem test_windows_of_table_8_6 :
    let c : Conf := { Conf.reset with freqKhz := 2000, burst := 12, stamps := 6 }
    c.hq = 24 ∧ c.nUsed .one = 6 ∧ c.nUsed .two = 6 ∧ (c.window .one .tracked 0 6 9525).2 = 9933 ∧ (c.window .two .tracked 0 6 9573).2 = 9981 ∧
    twiceInRef 9981 = 4991 := by decide

/-- Twelve first-wave times as the stamps of crossings 4 to 15, with a given sum of e_k: `extra` of them one tick longer. -/
def stampsOf (e extra : Nat) : List (Nat × Nat) := (List.range 12).map (fun i => (i + 1, (19 + i) * 393216 + e + if i < extra then 1 else 0))

/-- The DN15 meter of chapter 09. -/
def dn15 : Conf := { Conf.reset with
  paths := ⟨⟨100000, 100000, 1179648, 2⟩, ⟨0, 0, 0, 0⟩, ⟨0, 0, 0, 0⟩⟩
  pipes := ⟨⟨15000, 0, 0, 0, 1000, 0, []⟩, ⟨0, 0, 0, 0, 1000, 0, []⟩, ⟨0, 0, 0, 0, 1000, 0, []⟩⟩
  stamps := 12 }

/-- Table 9.10: the pair at 1 L/h. -/
theorem test_pair_of_table_9_10 : sumI (toFirstWave 48 7 (stampsOf 54234562 10)) = 650814754 ∧
    (let g := pairFigures dn15 .one (stampsOf 54234562 10) (stampsOf 54234429 10)
     g.up = 13582058197 ∧ g.dn = 13582024149 ∧ g.dt = 33536 ∧ g.v = 1830005 ∧ g.c = 1482300 ∧ g.result 48 = .valid) := by decide

/-- That meter with its path VALID at that velocity in water of 20.00 °C. -/
def dn15Flow : State := { up with
  conf := dn15
  fe := { up.fe with paths := ⟨{ FePath.reset with state := .valid, v := 1830005, c := 1482300 }, FePath.reset, FePath.reset⟩ }
  temp := { up.temp with sensors := List.replicate 4 { Sensor.reset with state := .ok, good := true, t := 200000 } } }

/-- The flow of chapter 09: k_ppm 860 023, 1 573 846 nm/s, 278 122 nL/s, out of the cutoff, no deviation of the sound speed. -/
theorem test_flow_of_dn15 : let f := (flowPipe .one dn15Flow).fe.pipes.p1
    f.k = 860023 ∧ f.v = 1573846 ∧ f.q = 278122 ∧ f.cutoff = false ∧ f.re = 23 ∧ f.cDev = 0 ∧ f.state = .valid ∧ area 15000 = 176714587 := by decide

/-- Table 9.11: the held value is the mean of both parities; after 262 144 LF periods the path is INVALID. -/
theorem test_hold_of_table_9_11 : { FePath.reset with v0 := some 1830005, v1 := some 1829430 }.held = some 1829718 ∧
    nextPathState .afe false 8 262143 { FePath.reset with state := .held, v0 := some 1829718, lastBegin := some 0 } = .held ∧
    nextPathState .afe false 8 262144 { FePath.reset with state := .held, v0 := some 1829718, lastBegin := some 0 } = .invalid := by decide

/-- Table 10.4: the seed of the first sweep, the register after 16 steps, d_n. -/
theorem test_dither_of_table_10_4 : seedOf 0x36244A1C0769508F 1 = 0x508E ∧ galois16 0x508E = 0x77B8 ∧ ditherOf 0x77B8 8192 = -66 := by decide +kernel

/-- Resistances to temperatures on a Pt1000 board by R324, and r_sw at 25.0 °C. Table 11.7 prints 700 000 for the first, which stands for
1 270.75125 Ω; R324 on 1 270 751 mΩ gives 699 999.35 (log entry 17). -/
theorem test_temperatures_of_r324 : toC10000 1270751 1000000 = 699999 ∧ toC10000 1155408 1000000 = 400000 ∧ rSwitch 2500 = 250 := by decide +kernel

/-- The set of Table 11.7 from its discharge times in ticks: TS1 and TS2 read 1 270 751 and 1 155 408 mΩ. -/
theorem test_set_of_table_11_7 :
    let s : State := { up with conf := { up.conf with refMohm := 1000180, leads := [120, 120, 0, 0] } }
    sensorResult s 0 (List.replicate 4 79709255) (List.replicate 4 (some 101274005)) = (.ok, 699999, 1270751) ∧
    sensorResult s 1 (List.replicate 4 79709255) (List.replicate 4 (some 92085140)) = (.ok, 400000, 1155408) ∧
    (sensorResult s 1 (List.replicate 4 79709255) [some 92085140, none]).1 = .opened := by decide +kernel

/-- The DN50 cycle of chapter 12. -/
theorem test_energy_of_dn50 :
    roundDiv (500000000 * 2042820623) 1000000000 = 1021410312 ∧
    (EePipe.reset.integrate false 1021410312 8192 0).fwd = 255352 ∧ (EePipe.reset.integrate false 1021410312 8192 0).fwdRes = 18939904 ∧
    (let c := Conf.reset
     c.rho 400000 = 992900000 ∧ c.enthalpy 700000 = 294600000 ∧ c.enthalpy 400000 = 169100000) ∧
    (let l := EeLoop.reset.integrate Conf.reset.loopA false 992900000 125500000 700000 1021410312 8192 0
     l.heat = 8838 ∧ l.mass = 253 ∧ l.power = 127277 ∧ l.state = 1 ∧ l.cold = 0) := by decide

/-- The compensation of chapter 13 at 45.00 °C, and the first five seconds from acc_ps 0: the third and the fifth are short. -/
theorem test_compensation :
    (let c : Conf := { Conf.reset with turnover100 := 2500, curve := -34, offset10 := 120 }
     compensation c 4500 = -12400) ∧
    nextLength (BitVec.ofInt 24 (-12400)) (BitVec.ofInt 32 (-24800000)) false = (32767, BitVec.ofInt 32 (-6682422)) ∧
    (nextLength (BitVec.ofInt 24 (-12400)) (BitVec.ofInt 32 (-6682422)) false).1 = 32768 ∧
    (nextLength (BitVec.ofInt 24 (-12400)) (BitVec.ofInt 32 (-19082422)) false).1 = 32767 := by decide

/-- The calendar of R369: 2000-01-01 is a Saturday, 2024 has a 29 February, and 99-12-31 is followed by 00-01-01. -/
theorem test_calendar : (⟨0, 0, 0, 1, 1, 0⟩ : Cal).weekday = 6 ∧
    (⟨0x59, 0x59, 0x23, 0x28, 2, 0x24⟩ : Cal).next = ⟨0, 0, 0, 0x29, 2, 0x24⟩ ∧
    (⟨0x59, 0x59, 0x23, 0x28, 2, 0x23⟩ : Cal).next = ⟨0, 0, 0, 1, 3, 0x23⟩ ∧ endOf99.next = ⟨0, 0, 0, 1, 1, 0⟩ := by decide

/-- Table 13.6: step 1 fires late for 02:00:00; step 2 does not. -/
theorem test_late_alarm : let a : AlarmSet := ⟨1, 2, 0, 0⟩
    lateInstant a ⟨0x58, 0x59, 1, 0x30, 3, 0x25⟩ ⟨0x30, 0, 2, 0x30, 3, 0x25⟩ = some ⟨0, 0, 2, 0x30, 3, 0x25⟩ ∧
    lateInstant a ⟨0, 0x10, 2, 0x30, 3, 0x25⟩ ⟨0, 0x50, 1, 0x30, 3, 0x25⟩ = none := by decide

/-- The words of chapter 14: 0xA916 asks for 0.90 V and VDRV at 5.0 V with tag 3, 0x9008 for 0.75 V with tag 4, 0x79 acknowledges. -/
theorem test_request_words : requestWord 2 true (Conf.reset.vdrvCode) 3 = 0xA916 ∧ requestWord 1 false 0 4 = 0x9008 ∧ pollOf 0xA916 0x79 = .ack := by decide

/-- The record of member 412 (Table 16.23). -/
def member412 : State :=
  let x := { Snapshot.reset with
    flowNlS := 3429166667, volumeUl := 48213907123456, heatMwh := 731006214987, supply := 851200, ret := 610700, eventSeq := 0x1B2C
    status := 0x0020, time := { TimeRegs.reset with deviceS := 36011242 } }
  { member with lnk := { member.lnk with address := 412, latched := some x, latchedS := 36011242 } }

theorem test_sweep_record_of_table_16_23 : addrWord member412 860 false false 0xB = 0x6735C00B ∧
    (sweepRecord member412 0x6735C00B).take 29 =
      [0x67, 0x35, 0xC0, 0x0B, 0x00, 0x20, 0x00, 0x12, 0xD6, 0x44, 0xDF, 0xAF, 0x93, 0x92, 0x45, 0x06, 0, 0, 0, 0x21, 0x40, 0x17, 0xDB,
       0x02, 0x25, 0x7C, 0xEA, 0x1B, 0x2C] := by decide

/-! ## Checks of single commands by their rules -/

/-- The outcome of a command as a state; the model refuses none. -/
def after (c : Instr) (s : State) : State :=
  match exec c s with
  | .next t => t
  | .fault _ => s
  | .refused _ => s

/-- From State.reset the core power-on release begins a start; the factory CRC of a blank fuse array fails S01 with reason 0x11. -/
theorem test_start_of_blank_device : (after (.corePorRelease in0) State.reset).start.phase = .delay ∧
    (after (.corePorRelease in0) State.reset).bkd.ledger.stepFailed = 1 ∧
    (after (.corePorRelease in0) State.reset).bkd.ledger.failReason = 0x11 ∧
    (after (.corePorRelease in0) State.reset).bkd.ledger.failCount = 1 := by decide +kernel

/-- A PING to address 5 is answered from it with state RUN, role member and device_s 0. -/
theorem test_ping : (after (.ping (frame typePing 5 [])) member).lnk.sentLu = some (.frame 256 5 typeAck 7 [0, 0, 0, 0, 0, 0]) := by decide +kernel

/-- A READ of an unknown part is refused with reason 0x05 and the type. -/
theorem test_read_refused : (after (.read (frame typeRead 5 readNoPart)) member).lnk.sentLu = some (.frame 256 5 typeNak 7 [0x05, 0x03, 0, 0]) := by decide +kernel

/-- A STATE of 5 does not exist. -/
theorem test_state_refused : (after (.state (frame typeState 5 [5])) member).lnk.sentLu = some (.frame 256 5 typeNak 7 [0x05, 0x14, 0, 0]) := by decide +kernel

/-- An ASSIGN is answered from the new address (R459). -/
theorem test_assign : (after (.assign (frame typeAssign 5 (assignTo 0 9))) member).lnk.sentLu = some (.frame 256 9 typeAck 7 []) := by decide +kernel

/-- The check values over the digits 1 to 9 that the parameters of Table 0.4 are known by. -/
theorem test_crc : let d : List Byte := [0x31, 0x32, 0x33, 0x34, 0x35, 0x36, 0x37, 0x38, 0x39]
    crc8 d = 0xF4 ∧ crc16 d = 0x29B1 ∧ crc32 d = 0xCBF43926 := by decide +kernel

/-- Table 6.2: 16 chips of path 1 change sign at chip 7, so chips 6 and 7 of the pad read high, low, low, high by half-periods (R168). -/
theorem test_chips : let s := after (.launch 0) (before .normal)
    [12, 13, 14, 15].map (fun h : Nat => s.pad ⟨true, true, true, ((h * 48 : Nat) : Int), none, 0⟩ (.xd .one .up)) = [.high, .low, .low, .high] := by
  decide +kernel

/-- A frame whose frame check fails is answered with NAK 0x01 that is not kept (R456). -/
theorem test_frame_check : (after (.unservedFrame (.judged typePing) (badCheck typePing)) member).lnk.sentLu =
      some (.frame 256 5 typeNak 7 [0x01, 0x01, 0, 0]) ∧
    (after (.unservedFrame (.judged typePing) (badCheck typePing)) member).lnk.cache = none := by decide +kernel

/-- A freeze request waits behind an earlier commit (R371, R375). -/
theorem test_freeze_order : let s := waits [.alarmClear, .freeze]
    (after .freezeEdge s).bkd.commits = [.alarmClear, .freeze] ∧ (after .bkdCommit s).bkd.commits = [.freeze] := by decide +kernel

/-- A high pulse whose pad has another one pending keeps the vote (R358). -/
theorem test_pulse_vote : let s := { pulsing 7 .high none 0 with power := { up.power with ee := 0 } }
    (after (.pulseHighEnd false) s).power.ee = 0 ∧ (after (.pulseHighEnd false) s).ee.padA.phase = .low := by decide +kernel

/-- No word of the table spells a command: its rows have no bits. -/
theorem test_decode_none : decodeTableWord 0 0 = none ∧ decodeTableWord 8 0xFF = none := by decide

end Sys2Proof.Machine.Tests
end

section
/-!
PROOF. Brown-out and RESET_N (Table 5.1): what a core reset takes from the device, and what the Flint banks, the backup domain and
the external memory keep.
-/
namespace Sys2Proof.Machine

/-! ## The fitted part -/

/-- The fitted part of a memory: presence, SFDP, identification, size and failing ranges. -/
def Mem.part (m : Mem) : Bool × List Byte × BitVec 24 × Nat × List (Nat × Nat) := (m.present, m.sfdp, m.ident, m.fitted, m.bad)

theorem samePart_iff (s t : State) : SamePart s t ↔ t.mem.part = s.mem.part := by
  simp [SamePart, Mem.part]

@[simp] theorem program_part (m : Mem) (a : Nat) (vs : List Byte) : (m.program a vs).part = m.part := by rw [program_eq]; rfl

@[simp] theorem eraseRange_part (m : Mem) (a n : Nat) : (m.eraseRange a n).part = m.part := program_part m a _

/-- A session's end writes cells and drops requests; the part itself stays. -/
theorem closeImage_part (m : Mem) (i : ImgSession) : (m.closeImage i).part = m.part := by
  have hd : (m.dropHeader i).part = m.part := eraseRange_part m _ 64
  unfold Mem.closeImage
  generalize m.dropHeader i = x at hd ⊢
  exact hd

@[simp] theorem closedMem_part (s : State) : s.closedMem.part = s.mem.part := by
  unfold State.closedMem
  split
  · exact closeImage_part _ _
  · rfl

/-! ## The reach of a core reset -/

/-- The cause of the start to come, spelled out. -/
theorem pendingCause_eq (s : State) (c : BitVec 3) :
    s.pendingCause c = if s.start.phase = .inReset ∧ s.start.cause = 0 then 0 else c := by
  unfold State.pendingCause
  cases s.start.phase <;> simp

theorem coreClear_hmcCleared (c : BitVec 3) (s : State) : HmcCleared s (coreClear c s) := by
  show (if s.power.state = .off then s.hmc.held else s.hmc.cleared) = _
  split <;> rfl

/-- A cleared link is out, or on its way out while its pass element is closed (Table 15.6). -/
theorem linkClear_not_inserted (s : State) : (linkClear s).phy.ins ≠ .inserted := by
  unfold linkClear
  cases s.phy.passClosed <;> simp [Phy.reset]

theorem linkClear_bypass (s : State) : (linkClear s).phy.bypassClosed = true := by
  unfold linkClear
  cases s.phy.passClosed <;> rfl

/-- The queue and the counter of the event arbiter stand through a reset of core and link; at most a removal waits anew (R32, R501). -/
theorem resetCore_eva (c : BitVec 3) (s : State) :
    (resetCore c s).eva.queue = s.eva.queue ∧ (resetCore c s).eva.next = s.eva.next := by
  show (if s.phy.ins = .inserted then _ else s.eva : Eva).cleared.queue = _ ∧
    (if s.phy.ins = .inserted then _ else s.eva : Eva).cleared.next = _
  split <;> exact ⟨rfl, rfl⟩

/-- What a reset of core and link leaves of the device, with the cause that the start to come has (Table 5.1). -/
def CoreLost (cause : BitVec 3) (s t : State) : Prop :=
  t.bkd = { s.bkd with shadow := none, readers := 0, strobe := false, commits := s.bkd.commits.filter Commit.staged } ∧
  t.fuse.words = s.fuse.words ∧ ClosedMemory s t ∧ SamePart s t ∧
  t.flags = s.flags ∧ t.clk.core = false ∧ HmcCleared s t ∧ t.seq = Seq.reset ∧ t.lnk.on = false ∧ t.phy.bypassClosed = true ∧
  t.phy.ins ≠ .inserted ∧ t.start.phase = .inReset ∧
  t.start.cause = (if s.start.phase = .inReset ∧ s.start.cause = 0 then 0 else cause)

/-- What the Flint banks hold is the same (R393). -/
def FlintKept (s t : State) : Prop :=
  SameRegisters s t ∧ t.ee.begin = s.ee.begin ∧ t.conf = s.conf ∧ t.straps = s.straps ∧ t.banks = s.banks ∧
  t.tiu.slots.map Slot.cal = s.tiu.slots.map Slot.cal ∧ t.eva.queue = s.eva.queue ∧ t.eva.next = s.eva.next ∧ t.fuse.uid = s.fuse.uid

theorem resetCore_coreLost (c : BitVec 3) (s : State) : CoreLost c s (resetCore (s.pendingCause c) s) :=
  ⟨rfl, rfl, fun _ => rfl, (samePart_iff _ _).mpr (closedMem_part s), rfl, rfl, coreClear_hmcCleared _ (linkClear s), rfl, rfl, linkClear_bypass s,
    linkClear_not_inserted s, rfl, pendingCause_eq s c⟩

theorem resetCore_flintKept (c : BitVec 3) (s : State) : FlintKept s (resetCore c s) :=
  ⟨⟨rfl, rfl, rfl⟩, rfl, rfl, rfl, rfl, by simp [resetCore, coreClear, linkClear, Tiu.cleared],
    (resetCore_eva c s).1, (resetCore_eva c s).2, rfl⟩

/-- The loss of the Flint banks besides takes nothing that a core reset keeps elsewhere. -/
theorem CoreLost.flintClear {c : BitVec 3} {s t : State} (h : CoreLost c s t) : CoreLost c s (flintClear t) := h

/-! ## The commands -/

theorem exec_vcoreBrownOut (s : State) (h : s.prq.bor.isSome = true) :
    exec .vcoreBrownOut s = .next (resetCore (s.pendingCause 2) s) := by
  simp [exec, execVcoreBrownOut, h]

/-- RESET_N below 1 µs, without VIO, or with VBAT low does nothing (R57). -/
theorem exec_resetN_ignored (w : PulseWidth) (vio : Bool) (mv : Nat) (s : State)
    (h : vio = false ∨ mv < 2700 ∨ s.power.vbatGood = false) : exec (.resetNAsserted w ⟨vio, mv⟩) s = .next s := by
  have hc : (!vio || decide (mv < 2700) || !s.power.vbatGood) = true := by simpa [or_assoc] using h
  simp only [exec, execResetNAsserted, hc, if_true]

section Supplied
variable {s : State} {mv : Nat} (hg : s.power.vbatGood = true) (hm : 2700 ≤ mv)
include hg hm

theorem exec_resetN_long : exec (.resetNAsserted .atLeast10us ⟨true, mv⟩) s = .next (takeResetN s) := by
  simp [exec, execResetNAsserted, hg, Nat.not_lt.mpr hm]

theorem exec_resetN_between : exec (.resetNAsserted .from1to10us ⟨true, mv⟩) s =
    .next (if Config.resetPulseTakes s.free then takeResetN s.spend else s.spend) := by
  simp [exec, execResetNAsserted, hg, Nat.not_lt.mpr hm]

end Supplied

theorem exec_resetN_short (vio : Bool) (mv : Nat) (s : State) :
    exec (.resetNAsserted .below1us ⟨vio, mv⟩) s = .next s := by
  simp [exec, execResetNAsserted]

/-- Outside OFF RESET_N is a core reset with the pad noted low. -/
theorem takeResetN_on (s : State) (h : s.poweredOff = false) : takeResetN s =
    { resetCore (s.pendingCause 3) s with power := { s.power.cleared with resetLow := true } } := by
  simp only [takeResetN, h, Bool.false_eq_true, if_false, Bool.or_false]
  rfl

/-- In OFF it raises PWRON, and the Flint banks hold nothing. -/
theorem takeResetN_off (s : State) (h : s.poweredOff = true) : takeResetN s =
    { flintClear (resetCore (s.pendingCause 3) s) with power := { s.power.cleared with resetLow := true, pwron := true } } := by
  simp only [takeResetN, h, if_true, Bool.or_true]
  rfl

theorem poweredOff_iff (s : State) : s.poweredOff = true ↔ s.power.state = .off ∨ s.power.trans = .lossWindow .off := by
  simp [State.poweredOff]

/-- Settles O4: every clause is the one reach of `resetCore`, with the Flint banks cleared besides where PWRON was low. -/
theorem coreResetsKeepFlintBanks : Obligations.CoreResetsKeepFlintBanks := by
  refine ⟨fun s mv => ⟨fun hb => ?_, fun hg hm hs ht => ?_, fun hg hm hoff => ?_⟩, fun s w vio mv => ⟨?_, ?_, ?_⟩⟩
  · exact ⟨_, exec_vcoreBrownOut s hb, resetCore_coreLost 2 s, resetCore_flintKept _ s, rfl⟩
  · have hon : s.poweredOff = false := by simp [State.poweredOff, hs, ht]
    refine ⟨_, exec_resetN_long hg hm, ?_⟩
    rw [takeResetN_on s hon]
    exact ⟨resetCore_coreLost 3 s, resetCore_flintKept (s.pendingCause 3) s, rfl, rfl⟩
  · refine ⟨_, exec_resetN_long hg hm, ?_⟩
    rw [takeResetN_off s ((poweredOff_iff s).mpr hoff)]
    exact ⟨(resetCore_coreLost 3 s).flintClear, rfl, rfl, rfl, rfl, rfl⟩
  · exact exec_resetN_short vio mv s
  · exact exec_resetN_ignored w vio mv s
  · rintro rfl hm hg
    rw [exec_resetN_between hg hm]
    cases Config.resetPulseTakes s.free with
    | false => exact .inl rfl
    | true => exact .inr (exec_resetN_long (s := s.spend) hg hm).symm

end Sys2Proof.Machine
end

section
/-!
PROOF. What the operations that a start calls leave alone (R133, R145): the fuse array, the fitted part, RESET_N, the waiting commands,
and, but for a commit of the ledger's own group, the ledger.
-/
namespace Sys2Proof.Machine

/-! ## The frames of a start -/

/-- What no step of a start touches: the fuse array, the fitted part, the RESET_N pad and the waiting commands. -/
structure StartFrame (s t : State) : Prop where
  words : t.fuse.words = s.fuse.words
  part : t.mem.part = s.mem.part
  low : t.power.resetLow = s.power.resetLow
  pending : t.pending = s.pending

/-- Besides, the ledger of the backup domain stays and none is staged anew. -/
structure Quiet (s t : State) : Prop extends StartFrame s t where
  ledger : t.bkd.ledger = s.bkd.ledger
  staged : ∀ l, Commit.ledger l ∈ t.bkd.commits → Commit.ledger l ∈ s.bkd.commits

/-- No ledger is staged. -/
def Unstaged (s : State) : Prop := ∀ l, Commit.ledger l ∉ s.bkd.commits

theorem StartFrame.trans {s t u : State} (h : StartFrame s t) (k : StartFrame t u) : StartFrame s u :=
  ⟨k.words.trans h.words, k.part.trans h.part, k.low.trans h.low, k.pending.trans h.pending⟩

theorem Quiet.refl (s : State) : Quiet s s := ⟨⟨rfl, rfl, rfl, rfl⟩, rfl, fun _ h => h⟩

theorem Quiet.trans {s t u : State} (h : Quiet s t) (k : Quiet t u) : Quiet s u :=
  ⟨h.toStartFrame.trans k.toStartFrame, k.ledger.trans h.ledger, fun l hl => h.staged l (k.staged l hl)⟩

theorem Quiet.unstaged {s t : State} (h : Quiet s t) (hs : Unstaged s) : Unstaged t := fun l hl => hs l (h.staged l hl)

/-- All of a state that the two frames speak of. -/
def State.startView (s : State) : Bkd × List (BitVec 32) × (Bool × List Byte × BitVec 24 × Nat × List (Nat × Nat)) × Bool × List Instr :=
  (s.bkd, s.fuse.words, s.mem.part, s.power.resetLow, s.pending)

/-- A state that differs elsewhere only. -/
theorem Quiet.of_view {s t : State} (h : t.startView = s.startView) : Quiet s t := by
  simp only [State.startView, Prod.mk.injEq] at h
  obtain ⟨hb, hw, hm, hl, hp⟩ := h
  exact ⟨⟨hw, hm, hl, hp⟩, by rw [hb], fun l hc => by rwa [hb] at hc⟩

/-- Another memory with the same part. -/
theorem Quiet.of_mem (s : State) {m : Mem} (h : m.part = s.mem.part) : Quiet s { s with mem := m } :=
  ⟨⟨rfl, h, rfl, rfl⟩, rfl, fun _ hl => hl⟩

theorem Quiet.foldl {α : Type} {f : State → α → State} (h : ∀ t a, Quiet t (f t a)) :
    ∀ (xs : List α) (s : State), Quiet s (xs.foldl f s)
  | [], s => .refl s
  | x :: xs, s => (h s x).trans (Quiet.foldl h xs (f s x))

theorem Quiet.when {f : State → State} (h : ∀ s, Quiet s (f s)) (b : Bool) (s : State) : Quiet s (when b f s) := by
  unfold Machine.when; split
  · exact h s
  · exact .refl s

theorem Quiet.ite {p : Prop} [Decidable p] {s t u : State} (ht : Quiet s t) (hu : Quiet s u) : Quiet s (if p then t else u) := by
  split <;> assumption

/-! ## Events, flags, votes and requests -/

theorem LogsOnly.quiet {s t : State} (h : LogsOnly s t) : Quiet s t := by rw [h.1]; exact .of_view (by rfl)

theorem raise_quiet (c : BitVec 16) (a : List (BitVec 32)) (s : State) : Quiet s (raise c a s) := (raise_logs c a s).1.quiet

theorem occur_quiet (k : Nat) (s : State) : Quiet s (occur k s) := .of_view (by rfl)

theorem raiseFlag_quiet (k : Nat) (c : BitVec 16) (a : List (BitVec 32)) (s : State) : Quiet s (raiseFlag k c a s) :=
  (raise_quiet c a s).trans (occur_quiet k _)

/-- A commit request that is no ledger. -/
theorem request_quiet (c : Commit) (s : State) (h : ∀ l, c ≠ .ledger l) : Quiet s (request c s) where
  toStartFrame := ⟨rfl, rfl, rfl, rfl⟩
  ledger := rfl
  staged l hl := by
    rcases List.mem_append.mp hl with hl | hl
    · exact hl
    · exact absurd (List.mem_singleton.mp hl).symm (h l)

theorem setFault_quiet (s : State) : Quiet s (setFault s) := request_quiet _ s nofun

theorem requestMem_quiet (r : MemReq) (s : State) : Quiet s (requestMem r s) := (requestMem_logsOnly r s).quiet

theorem logWhenHalf_quiet (s : State) : Quiet s (logWhenHalf s) := (logWhenHalf_logsOnly s).quiet

theorem grantWaiting_quiet (s : State) : Quiet s (grantWaiting s) := by
  unfold grantWaiting
  split
  · exact ((Quiet.of_view (s := s) (t := { s with eva := s.eva.grantWaiting s.now }) (by rfl)).trans (logWhenHalf_quiet _)).trans
      (workMoment_logsOnly _).quiet
  · exact .refl s

theorem serveAlarm_quiet (s : State) : Quiet s (serveAlarm s) := by
  unfold serveAlarm
  exact .ite (request_quiet _ s nofun) (.refl s)

theorem afterWake_quiet (s : State) : Quiet s (afterWake s) :=
  ((Quiet.mk (s := s) (t := { s with bkd := { s.bkd with eventLatch := s.bkd.eventLatch && !s.awake } })
    ⟨rfl, rfl, rfl, rfl⟩ rfl fun _ h => h).trans (grantWaiting_quiet _)).trans (serveAlarm_quiet _)

/-! ## Resets -/

/-- The domains that a core or main reset clears hold no ledger, and the staged ones stay (R133). -/
theorem resetCore_quiet (c : BitVec 3) (s : State) : Quiet s (resetCore c s) where
  words := rfl
  part := closedMem_part s
  low := rfl
  pending := rfl
  ledger := rfl
  staged _ hl := (List.mem_filter.mp hl).1

theorem flintClear_quiet (s : State) : Quiet s (flintClear s) := .of_view (by rfl)

theorem resetMain_quiet (s : State) : Quiet s (resetMain s) := (resetCore_quiet 1 s).trans (flintClear_quiet _)

theorem offWake_quiet (s : State) : Quiet s (offWake s) := by
  unfold offWake
  exact .ite ((resetMain_quiet s).trans (.of_view (by rfl))) (.refl s)

/-! ## Commits taking effect -/

/-- The fields of the backup domain beside its ledger and its commits. -/
theorem Quiet.of_bkd {s : State} {b : Bkd} (hl : b.ledger = s.bkd.ledger) (hc : b.commits = s.bkd.commits) :
    Quiet s { s with bkd := b } :=
  ⟨⟨rfl, rfl, rfl, rfl⟩, hl, fun l h => by rwa [← hc]⟩

theorem fireAlarm_quiet (c : Cal) (late : Bool) (s : State) : Quiet s (fireAlarm c late s) := by
  unfold fireAlarm
  have hf := (Quiet.of_bkd (s := s) (b := { s.bkd with
    time := { s.bkd.time with alarmFlag := true, alarmLate := late }, lastFired := c.dateKey }) rfl rfl).trans
      (raiseFlag_quiet flagAlarm 0x0104
        (arg (c.hour.toNat * 2 ^ 24 + c.min.toNat * 2 ^ 16 + c.sec.toNat * 2 ^ 8 + late.toNat)) _)
  exact .ite hf ((hf.trans (.trans (.of_view (by rfl)) (offWake_quiet _))).trans (serveAlarm_quiet _))

theorem commitTime_quiet (c : Cal) (s : State) : Quiet s (commitTime c s) := by
  have hr := (Quiet.of_bkd (s := s) (b := { s.bkd with
    time := { s.bkd.time with cal := c, weekday := c.weekday, subsec := 0, osf := false } }) rfl rfl).trans
      (raise_quiet 0x0102 (timeWords s.bkd.time.cal c) _)
  cases hi : lateInstant s.bkd.alarm s.bkd.time.cal c with
  | none =>
    simp only [commitTime, raise_bkd, hi]
    exact .ite (hr.trans (fireAlarm_quiet c false _)) hr
  | some i =>
    simp only [commitTime, raise_bkd, hi]
    have hl := fun b : Bool => hr.trans (.ite (p := b = true) (fireAlarm_quiet i true _) (.refl _))
    exact .ite ((hl _).trans (fireAlarm_quiet c false _)) (hl _)

/-- Edge E ends a read session and drops a freeze request that waits; the backup domain keeps the rest. -/
theorem enterEdge_bkd (p : PState) (s : State) : (enterEdge p s).bkd =
    { s.bkd with shadow := none, readers := 0, commits := s.bkd.commits.filter (· != .freeze) } := by
  cases p <;> rfl

theorem enterEdge_quiet (p : PState) (s : State) : Quiet s (enterEdge p s) where
  words := by cases p <;> rfl
  part := by cases p <;> rfl
  low := by cases p <;> rfl
  pending := by cases p <;> rfl
  ledger := by rw [enterEdge_bkd]
  staged l hl := by
    rw [enterEdge_bkd] at hl
    exact (List.mem_filter.mp hl).1

/-- Every commit but a ledger's leaves the ledger. -/
theorem applyCommit_quiet (c : Commit) (s : State) (h : ∀ l, c ≠ .ledger l) : Quiet s (applyCommit c s) := by
  cases c with
  | ledger l => exact absurd rfl (h l)
  | time c => exact commitTime_quiet c s
  | entry p => exact enterEdge_quiet p s
  | freeze => exact .of_bkd (by unfold Bkd.freeze; split <;> rfl) (by unfold Bkd.freeze; split <;> rfl)
  | _ => exact .of_bkd rfl rfl

/-- A commit that is taken, of a ledger with the cause or of anything else, keeps the cause. -/
theorem applyCommit_frame (c : Commit) (s : State) : StartFrame s (applyCommit c s) := by
  by_cases h : ∃ l, c = .ledger l
  · obtain ⟨l, rfl⟩ := h
    exact ⟨rfl, rfl, rfl, rfl⟩
  · exact (applyCommit_quiet c s fun l hl => h ⟨l, hl⟩).toStartFrame

theorem applyCommit_unstaged (c : Commit) {s : State} (hs : Unstaged s) : Unstaged (applyCommit c s) := by
  by_cases h : ∃ l, c = .ledger l
  · obtain ⟨l, rfl⟩ := h
    exact hs
  · exact (applyCommit_quiet c s fun l hl => h ⟨l, hl⟩).unstaged hs

theorem drain_frame : ∀ (cs : List Commit) (s : State), StartFrame s (drain cs s)
  | [], s => (Quiet.refl s).toStartFrame
  | c :: cs, s => (applyCommit_frame c s).trans (drain_frame cs _)

theorem drain_unstaged : ∀ (cs : List Commit) {s : State}, Unstaged s → Unstaged (drain cs s)
  | [], _, hs => hs
  | c :: cs, _, hs => drain_unstaged cs (applyCommit_unstaged c hs)

theorem drain_append : ∀ (cs ds : List Commit) (s : State), drain (cs ++ ds) s = drain ds (drain cs s)
  | [], _, _ => rfl
  | _ :: cs, ds, _ => drain_append cs ds _

theorem settle_frame (s : State) : StartFrame s (settle s) :=
  StartFrame.trans (t := { s with bkd := { s.bkd with commits := [] } }) ⟨rfl, rfl, rfl, rfl⟩ (drain_frame _ _)

/-! ## The memory as a start finds it -/

@[simp] theorem discovered_part (m : Mem) (r : Option Nat) (d : List Byte) : (m.discovered r d).part = m.part := by
  unfold Mem.discovered
  cases r <;> dsimp only <;> split <;> rfl

theorem writeRecord_part (b : List Byte) (n : Nat) : ∀ (x : Mem × LogRing) (bad : List Nat),
    (writeRecord b n x bad).1.1.part = x.1.part := by
  induction n with
  | zero => intro x bad; rfl
  | succ n ih =>
    rintro ⟨m, g⟩ bad
    have he : (if m.logErases g then m.eraseRange (sectorBase g.next) 4096 else m).part = m.part := by
      split
      · exact eraseRange_part m _ _
      · rfl
    unfold writeRecord
    extract_lets erases e m' a
    have hm : m'.part = m.part := he
    clear_value m'
    split
    · exact ih _ _
    · split
      · exact (program_part m' a b).trans hm
      · exact (ih _ _).trans hm

theorem writeRecords_part (n : Nat) : ∀ (rs : List Record) (x : Mem × LogRing) (bad : List Nat),
    (writeRecords n rs x bad).1.1.part = x.1.part
  | [], _, _ => rfl
  | r :: rs, x, bad => (writeRecords_part n rs _ _).trans (writeRecord_part r.bytes n x bad)

theorem discover_quiet (s : State) : Quiet s (discover s) := by
  unfold discover
  split
  · exact .refl s
  · split
    · have hd : Quiet s { s with mem := s.mem.discovered (descriptorFault (s.mem.bytes 0 64)) (s.mem.bytes 0 64) } :=
        .of_mem s (discovered_part _ _ _)
      have hr := hd.trans (raise_quiet 0x0A09
        (arg (s.mem.discovered (descriptorFault (s.mem.bytes 0 64)) (s.mem.bytes 0 64)).ident.toNat) _)
      dsimp only
      split
      · exact hr.trans (raise_quiet 0x0A08 _ _)
      · exact hr
    · exact .trans (.of_view (by rfl)) (raise_quiet 0x0A09 _ _)

/-- The sequence counter is set in the arbiter, and the loss of the backup domain is answered (R34). -/
theorem settleCounter_quiet (s : State) : Quiet s (settleCounter s) := by
  have hl : Quiet s { s with bkd := { s.bkd with lost := false } } := .of_bkd rfl rfl
  refine hl.trans ?_
  unfold settleCounter
  dsimp only
  split
  · split <;> exact .of_view (by rfl)
  · exact .refl _

theorem writeHeld_quiet (s : State) : Quiet s (writeHeld s) := by
  have hc := (discover_quiet s).trans (settleCounter_quiet _)
  unfold writeHeld
  dsimp only
  split
  · exact hc.trans ((Quiet.of_mem _ (writeRecords_part _ _ _ _)).trans (.of_view (by rfl)))
  · exact hc.trans (.of_view (by rfl))

theorem setUpLog_quiet (s : State) : Quiet s (setUpLog s) := by
  unfold setUpLog
  have hl : Quiet s { s with log := if s.mem.usable then s.mem.findLog else s.log } := .of_view (by rfl)
  exact ((hl.trans (settleCounter_quiet _)).trans (.of_view (by rfl))).trans (logWhenHalf_quiet _)

/-! ## Sessions and snapshots -/

theorem openSession_quiet (s : State) : Quiet s (openSession s) where
  toStartFrame := ⟨rfl, rfl, rfl, rfl⟩
  ledger := by unfold openSession Bkd.askFreeze; dsimp only; split <;> rfl
  staged l hl := by
    unfold openSession Bkd.askFreeze at hl
    dsimp only at hl
    split at hl
    · exact hl
    · simpa using hl

theorem releaseSession_quiet (s : State) : Quiet s (releaseSession s) := .of_bkd rfl rfl

end Sys2Proof.Machine
end

section
/-!
PROOF. A start records its cause (R145, R153): what a write of the ledger leaves, and then the steps of a start, from its end back to
S00, each of which keeps the cause that S00 wrote.
-/
namespace Sys2Proof.Machine

/-! ## The cause in the ledger -/

/-- The ledger and every ledger staged behind it have the cause. -/
def HasCause (c : BitVec 3) (s : State) : Prop :=
  s.bkd.ledger.resetCause = c ∧ ∀ l, Commit.ledger l ∈ s.bkd.commits → l.resetCause = c

/-- Besides the frame, the ledger's cause stays, whatever else of it changes. -/
structure KeepsCause (s t : State) : Prop extends StartFrame s t where
  cause : ∀ c, HasCause c s → HasCause c t

theorem Quiet.keeps {s t : State} (h : Quiet s t) : KeepsCause s t :=
  ⟨h.toStartFrame, fun _ hc => ⟨by rw [h.ledger]; exact hc.1, fun l hl => hc.2 l (h.staged l hl)⟩⟩

theorem KeepsCause.refl (s : State) : KeepsCause s s := (Quiet.refl s).keeps

theorem KeepsCause.trans {s t u : State} (h : KeepsCause s t) (k : KeepsCause t u) : KeepsCause s u :=
  ⟨h.toStartFrame.trans k.toStartFrame, fun c hc => k.cause c (h.cause c hc)⟩

theorem KeepsCause.ite {p : Prop} [Decidable p] {s t u : State} (ht : KeepsCause s t) (hu : KeepsCause s u) :
    KeepsCause s (if p then t else u) := by
  split <;> assumption

/-! ## Commits that keep the cause -/

theorem applyCommit_hasCause {c : Commit} {r : BitVec 3} {s : State} (hc : ∀ l, c = .ledger l → l.resetCause = r)
    (hs : HasCause r s) : HasCause r (applyCommit c s) := by
  by_cases h : ∃ l, c = .ledger l
  · obtain ⟨l, rfl⟩ := h
    exact ⟨hc l rfl, hs.2⟩
  · exact (applyCommit_quiet c s fun l hl => h ⟨l, hl⟩).keeps.cause r hs

theorem drain_hasCause {r : BitVec 3} : ∀ (cs : List Commit) {s : State}, (∀ l, Commit.ledger l ∈ cs → l.resetCause = r) →
    HasCause r s → HasCause r (drain cs s)
  | [], _, _, hs => hs
  | _ :: cs, _, hc, hs => drain_hasCause cs (fun l hl => hc l (.tail _ hl))
      (applyCommit_hasCause (fun l hl => hc l (hl ▸ .head _)) hs)

theorem settle_keeps (s : State) : KeepsCause s (settle s) :=
  ⟨settle_frame s, fun _ hc => drain_hasCause _ hc.2 ⟨hc.1, fun _ hl => absurd hl List.not_mem_nil⟩⟩

theorem commitNow_keeps (c : Commit) (s : State) (h : ∀ l, c ≠ .ledger l) : KeepsCause s (commitNow c s) :=
  (request_quiet c s h).keeps.trans (settle_keeps _)

/-! ## The ledger written -/

theorem writeLedger_frame (f : Ledger → Ledger) (s : State) : StartFrame s (writeLedger f s) :=
  (settle_frame s).trans (StartFrame.trans (t := request _ _) ⟨rfl, rfl, rfl, rfl⟩ (settle_frame _))

/-- The ledger as written is the one in force, and none is staged behind it. -/
theorem writeLedger_hasCause (f : Ledger → Ledger) (s : State) : HasCause (f (settle s).bkd.ledger).resetCause (writeLedger f s) := by
  have hd : writeLedger f s = applyCommit (.ledger (f (settle s).bkd.ledger))
      (drain (settle s).bkd.commits
        { request (.ledger (f (settle s).bkd.ledger)) (settle s) with
          bkd := { (request (.ledger (f (settle s).bkd.ledger)) (settle s)).bkd with commits := [] } }) :=
    drain_append _ _ _
  rw [hd]
  exact ⟨rfl, fun l hl => absurd hl (applyCommit_unstaged _ (drain_unstaged _ fun _ => List.not_mem_nil) l)⟩

theorem writeLedger_keeps (f : Ledger → Ledger) (hf : ∀ l, (f l).resetCause = l.resetCause) (s : State) :
    KeepsCause s (writeLedger f s) := by
  refine ⟨writeLedger_frame f s, fun c hc => ?_⟩
  have hw := writeLedger_hasCause f s
  rwa [hf, ((settle_keeps s).cause c hc).1] at hw

/-! ## Sessions -/

/-- A reader that waits for valid shadows lets the requests before its freeze take their edges (R375). -/
theorem awaitShadows_keeps (s : State) : KeepsCause s (awaitShadows s) := by
  unfold awaitShadows
  have ha : Quiet s { s with bkd := { s.bkd with readers := max 1 s.bkd.readers }.askFreeze } :=
    ⟨⟨rfl, rfl, rfl, rfl⟩, by unfold Bkd.askFreeze; split <;> rfl, fun l hl => by
      unfold Bkd.askFreeze at hl
      dsimp only at hl
      split at hl
      · exact hl
      · simpa using hl⟩
  exact .ite (.refl s) (ha.keeps.trans (settle_keeps _))

theorem ownSession_keeps (f : TimeRegs → State → Snapshot) (s : State) : KeepsCause s (ownSession f s) :=
  ((openSession_quiet s).keeps.trans (awaitShadows_keeps _)).trans
    ((Quiet.of_view (t := { awaitShadows (openSession s) with
      snap := f (awaitShadows (openSession s)).frozen (awaitShadows (openSession s)) }) (by rfl)).trans (releaseSession_quiet _)).keeps

/-! ## Bookkeeping of the steps -/

theorem raise_keeps (c : BitVec 16) (a : List (BitVec 32)) (s : State) : KeepsCause s (raise c a s) := (raise_quiet c a s).keeps

theorem beginStep_keeps (n : Nat) (s : State) : KeepsCause s (beginStep n s) := by
  have hp : Quiet s { s with start := { s.start with phase := .step n } } := .of_view (by rfl)
  exact (hp.keeps.trans (writeLedger_keeps (fun l => { l with stepReached := BitVec.ofNat 4 n }) (fun _ => rfl) _)).trans
    (Quiet.when (raise_quiet 0x0A03 (arg n)) _ _).keeps

theorem recordFailure_keeps (n : Nat) (r : Byte) (s : State) : KeepsCause s (recordFailure n r s) :=
  (writeLedger_keeps (Ledger.fail n r) (fun _ => rfl) s).trans ((raise_quiet _ _ _).trans (setFault_quiet _)).keeps

theorem recordOnly_keeps (n : Nat) (r : Byte) (s : State) : KeepsCause s (recordOnly n r s) :=
  (writeLedger_keeps (fun l => { l with stepFailed := BitVec.ofNat 4 n, failReason := r }) (fun _ => rfl) s).trans
    ((raise_quiet _ _ _).trans (setFault_quiet _)).keeps

/-! ## Basalt mode and failures -/

theorem quiesce_quiet (s : State) : Quiet s (quiesce s) where
  words := rfl
  part := closedMem_part s
  low := rfl
  pending := rfl
  ledger := rfl
  staged _ hl := (List.mem_filter.mp hl).1

@[simp] theorem sleepFor_part (m : Mem) (p : PState) : (m.sleepFor p).part = m.part := by
  unfold Mem.sleepFor; split <;> rfl

theorem enterBasalt_keeps (s : State) : KeepsCause s (enterBasalt s) := by
  have hp : Quiet s { s with start := { s.start with phase := .basalt } } := .of_view (by rfl)
  unfold enterBasalt
  extract_lets failed src w u v b
  have hu : KeepsCause s u := (hp.keeps.trans (writeLedger_keeps (fun l => { l with startActive := false }) (fun _ => rfl) _)).trans
    ((raise_quiet 0x0A04 (arg 1) w).trans (setFault_quiet _)).keeps
  have hv : KeepsCause s v := hu.trans (Quiet.trans (.ite (writeHeld_quiet u) (.refl u)) (quiesce_quiet _)).keeps
  have hb : KeepsCause s b := hv.trans (ownSession_keeps basaltParts v)
  clear_value v b
  split
  · exact hb.trans (((Quiet.of_mem _ (sleepFor_part _ .off)).trans (.of_view (by rfl))).trans (request_quiet (.entry .off) _ nofun)).keeps
  · exact (hv.trans (Quiet.of_view (by rfl)).keeps).trans (ownSession_keeps _ _)

/-- A start that fails waits for its restart with the core and link reset, or is in Basalt mode (R153, R157). -/
theorem startFails_keeps (n : Nat) (r : Byte) (s : State) : KeepsCause s (startFails n r s) := by
  unfold startFails
  extract_lets t u
  have ht : KeepsCause s t := recordFailure_keeps n r s
  have hu : Quiet t u := (Quiet.ite (.refl t) (writeHeld_quiet t)).trans (resetCore_quiet 6 _)
  clear_value t u
  exact .ite (ht.trans (enterBasalt_keeps t)) (ht.trans (hu.trans (.of_view (by rfl))).keeps)

theorem earlyFails_keeps (n : Nat) (r : Byte) {keep goOn : State → State} (hk : ∀ s, KeepsCause s (keep s))
    (hg : ∀ s, KeepsCause s (goOn s)) (s : State) : KeepsCause s (earlyFails n r keep goOn s) := by
  unfold earlyFails
  have hf := recordFailure_keeps n r s
  exact .ite ((recordOnly_keeps n r s).trans (hg _)) (.ite (hf.trans (hg _)) ((hk s).trans (startFails_keeps n r _)))

/-! ## S12 and S11 -/

theorem logStamps_quiet (s : State) : Quiet s (logStamps s) := by
  unfold logStamps
  split
  · exact .trans (.of_view (by rfl)) (raise_quiet _ _ _)
  · exact .refl s

theorem writeCopy_quiet (s : State) : Quiet s (writeCopy s) := request_quiet _ s nofun

theorem retime_quiet (s : State) : Quiet s (retime s) := by rw [retime_eq]; exact .of_view (by rfl)

theorem reach_quiet (s : State) : Quiet s (reach s) := .ite (.of_view (by rfl)) (retime_quiet s)

theorem stepS12_keeps (s : State) : KeepsCause s (stepS12 s) := by
  have hb := (beginStep_keeps 12 s).trans (logStamps_quiet _).keeps
  unfold stepS12
  generalize logStamps (beginStep 12 s) = t at hb ⊢
  have hw : Quiet t (when (t.role == .standAlone) writeCopy t) := .when writeCopy_quiet _ t
  dsimp only
  generalize when (t.role == .standAlone) writeCopy t = u at hw ⊢
  have hu : Quiet u { u with bkd := { u.bkd with timer := 0, timerOn := true }, seq := { u.seq with nominal := 0, dither := 0 } } :=
    ⟨⟨rfl, rfl, rfl, rfl⟩, rfl, fun _ hl => hl⟩
  exact hb.trans ((hw.trans hu).trans (reach_quiet _)).keeps

theorem adjustSeconds_quiet (s : State) : Quiet s (adjustSeconds s) := by
  unfold adjustSeconds
  split
  · split
    · exact .of_bkd (by split <;> rfl) (by split <;> rfl)
    · exact .of_bkd rfl rfl
  · exact .refl s

theorem startAfe_quiet (s : State) : Quiet s (startAfe s) := .of_view (by rfl)
theorem startFlow_quiet (s : State) : Quiet s (startFlow s) := .of_view (by rfl)
theorem startSensors_quiet (s : State) : Quiet s (startSensors s) := .of_view (by rfl)

theorem releaseBlocks_quiet (s : State) : Quiet s (releaseBlocks s) :=
  ((Quiet.trans (.of_view (by rfl)) (startAfe_quiet _)).trans (startFlow_quiet _)).trans (startSensors_quiet _)

theorem logRestore_quiet (s : State) : Quiet s (logRestore s) :=
  (raise_quiet _ _ s).trans (.when (occur_quiet flagSave) _ _)

/-- The registers settle at S11 in EE and the event arbiter alone. -/
theorem settleRegisters_quiet {s t : State} (h : settleRegisters s = some t) : Quiet s t := by
  have hr : ∀ e t, some (logRestore { s with ee := e }) = some t → Quiet s t := fun e t he =>
    Option.some.inj he ▸ .trans (.of_view (by rfl)) (logRestore_quiet _)
  revert h
  unfold settleRegisters
  split
  · intro h; exact Option.some.inj h ▸ .refl s
  · dsimp only
    split
    · split
      · split <;> exact hr _ _
      · split <;> exact hr _ _
    · split
      · exact hr _ _
      · exact nofun

theorem takeResult_quiet (n : Fin 4) (r : SensorResult) (t res : Int) (s : State) : Quiet s (takeResult n r t res s) := by
  have hs : Quiet s { s with temp := { s.temp with sensors := s.temp.sensors.set n.val ((s.sensor n.val).take r t res) } } := .of_view (by rfl)
  unfold takeResult
  exact (hs.trans (.ite (.refl _) (raise_quiet _ _ _))).trans (.when (occur_quiet flagSensor) _ _)

theorem setDue_quiet (s : State) : Quiet s (setDue s) := by
  have hm : Quiet s (takeMismatch s) :=
    .trans (.trans (.of_view (by rfl)) (.foldl (fun t n => takeResult_quiet n .mismatch 0 0 t) _ _)) ((raise_quiet _ _ _).trans (setFault_quiet _))
  exact .ite (.refl s) (.ite hm (.of_view (by rfl)))

theorem alarmSaves_quiet : ∀ (n : Nat) (s : State), Quiet s (alarmSaves n s)
  | 0, s => .refl s
  | n + 1, s => (requestMem_quiet _ s).trans (alarmSaves_quiet n _)

theorem alarmSave_quiet (s : State) : Quiet s (alarmSave s) := .ite (.trans (.of_view (by rfl)) (alarmSaves_quiet _ _)) (.refl s)

theorem initialSnapshot_keeps (s : State) : KeepsCause s (initialSnapshot s) :=
  (ownSession_keeps initialParts s).trans (Quiet.of_view (by rfl)).keeps

theorem finishS11_keeps (s : State) : KeepsCause s (finishS11 s) := by
  have hb := (releaseBlocks_quiet s).trans (adjustSeconds_quiet _)
  unfold finishS11
  generalize adjustSeconds (releaseBlocks s) = t at hb ⊢
  have hw : Quiet t (when t.mem.usable (fun t => { t with save := t.mem.findSaves t.save }) t) := .when (fun _ => .of_view (by rfl)) _ t
  dsimp only
  generalize when t.mem.usable (fun t => { t with save := t.mem.findSaves t.save }) t = u at hw ⊢
  have hu := (hb.trans hw).keeps
  split
  · exact hu.trans (startFails_keeps 11 0x71 u)
  · rename_i v hv
    have hv := hu.trans ((settleRegisters_quiet hv).trans (setDue_quiet v)).keeps
    exact ((hv.trans (initialSnapshot_keeps _)).trans (alarmSave_quiet _).keeps).trans (stepS12_keeps _)

theorem stepS11_keeps (i : StartIn) (s : State) : KeepsCause s (stepS11 i s) :=
  .ite (beginStep_keeps 11 s) ((beginStep_keeps 11 s).trans (finishS11_keeps _))

/-! ## S10 to S08 -/

theorem logRetired_quiet (s : State) : Quiet s (logRetired s) :=
  .foldl (fun t _ => .when (raiseFlag_quiet flagSlot 0x0301 _) _ t) _ s

theorem ringCalibrate_quiet (raw : RingRaw) (s : State) : Quiet s (ringCalibrate raw s) := by
  unfold ringCalibrate vernierFault
  dsimp only
  split
  · exact .of_view (by rfl)
  · exact .trans (.of_view (by rfl)) (raise_quiet 0x0303 (arg 127) _)

theorem calibrateStart_keeps (i : StartIn) (s : State) : KeepsCause s (calibrateStart i s) := by
  have hr := ringCalibrate_quiet i.ring s
  unfold calibrateStart
  generalize ringCalibrate i.ring s = t at hr ⊢
  have hw : ∀ (m : BitVec 24) (u : State), KeepsCause u (writeLedger (fun l => { l with slotFailMask := m }) u) := fun m =>
    writeLedger_keeps (fun l => { l with slotFailMask := m }) fun _ => rfl
  dsimp only
  refine .trans (.trans ?_ (hw _ _)) (logRetired_quiet _).keeps
  exact (hr.trans (.of_view (s := t) (by rfl))).keeps

theorem stepS10_keeps (i : StartIn) (s : State) : KeepsCause s (stepS10 i s) := by
  have hb := beginStep_keeps 10 s
  have hc := hb.trans (calibrateStart_keeps i _)
  exact .ite (hb.trans (stepS11_keeps i _)) (.ite hb
    (.ite (hc.trans (startFails_keeps 10 0x61 _)) (hc.trans (stepS11_keeps i _))))

theorem stepS09_keeps (i : StartIn) (s : State) : KeepsCause s (stepS09 i s) := by
  have hb := beginStep_keeps 9 s
  unfold stepS09
  generalize beginStep 9 s = t at hb ⊢
  dsimp only
  split
  · exact hb
  · split
    · exact (hb.trans (Quiet.of_view (by rfl)).keeps).trans (stepS10_keeps i _)
    · exact (hb.trans (Quiet.of_view (by rfl)).keeps).trans (startFails_keeps 9 0x60 _)

/-- The choice of a firmware bank logs what it rejects. -/
theorem chooseFirmware_quiet (newer : Bool) : ∀ (ks : List Bank) (best : Option Bank) (r : Byte) (s : State),
    Quiet s (chooseFirmware newer ks best r s).2
  | [], some _, _, s => .refl s
  | [], none, _, s => .refl s
  | k :: ks, best, r, s => by
    unfold chooseFirmware
    split
    · split
      · exact chooseFirmware_quiet newer ks _ r s
      · exact .refl s
    · rename_i x _
      exact (raise_quiet 0x0A0A (arg (bankArg true k x.toNat)) s).trans (chooseFirmware_quiet newer ks best x _)

theorem useFirmware_quiet (k : Bank) (s : State) : Quiet s (useFirmware k s) := .of_view (by rfl)

theorem stepS08_keeps (i : StartIn) (s : State) : KeepsCause s (stepS08 i s) := by
  have hb := beginStep_keeps 8 s
  unfold stepS08
  generalize beginStep 8 s = t at hb ⊢
  dsimp only
  split
  · exact hb
  · have hf : Quiet t { t with banks := { t.banks with fwFirst := t.firmwareOrder.head? } } := .of_view (by rfl)
    have hc := hb.trans (hf.trans (chooseFirmware_quiet (t.policy == .newerFirst) t.firmwareOrder none 0 _)).keeps
    split
    · rename_i r u he
      have hu : KeepsCause s u := by
        rw [show u = _ from (congrArg Prod.snd he).symm]
        exact hc
      exact hu.trans (startFails_keeps 8 _ u)
    · rename_i k u he
      have hu : KeepsCause s u := by
        rw [show u = _ from (congrArg Prod.snd he).symm]
        exact hc
      have hw := (Quiet.of_view (s := u) (by rfl)).trans (useFirmware_quiet k _)
      exact (hu.trans ((hw.trans (.of_view (by rfl))).trans (setUpLog_quiet _)).keeps).trans (stepS09_keeps i _)

/-! ## S07 to S04 -/

theorem useConf_keeps (k : Bank) (s : State) : KeepsCause s (useConf k s) := by
  have hc := settle_keeps s
  unfold useConf
  generalize settle s = t at hc ⊢
  dsimp only
  refine ((hc.trans ?_).trans (commitNow_keeps (.eventEdge _) _ nofun)).trans (Quiet.of_view (by rfl)).keeps
  unfold when
  exact .ite (commitNow_keeps (.alarm _ _) t nofun) (.refl t)

theorem bankChosen_keeps (i : StartIn) (k : Bank) (s : State) : KeepsCause s (bankChosen i k s) :=
  ((Quiet.of_view (by rfl)).keeps.trans (useConf_keeps k _)).trans (stepS08_keeps i _)

theorem tryBanks_keeps (i : StartIn) : ∀ (ks : List Bank) (best : Option Bank) (f : Nat × Byte) (s : State),
    KeepsCause s (tryBanks i ks best f s)
  | [], none, f, s => startFails_keeps f.1 f.2 s
  | [], some k, _, s => bankChosen_keeps i k s
  | k :: ks, best, f, s => by
    have hd := (beginStep_keeps (confStep k) s).trans (discover_quiet _).keeps
    unfold tryBanks
    generalize discover (beginStep (confStep k) s) = t at hd ⊢
    dsimp only
    split
    · exact hd
    · split
      · split
        · exact hd.trans (tryBanks_keeps i ks _ f t)
        · exact hd.trans (bankChosen_keeps i k t)
      · rename_i r _
        exact (hd.trans (raise_keeps 0x0A0A (arg (bankArg false k r.toNat)) t)).trans (tryBanks_keeps i ks best _ _)

theorem stepBanks_keeps (i : StartIn) (s : State) : KeepsCause s (stepBanks i s) := tryBanks_keeps i _ _ _ s

theorem passS05_keeps (i : StartIn) (s : State) : KeepsCause s (passS05 i s) :=
  (Quiet.of_view (by rfl)).keeps.trans (stepBanks_keeps i _)

theorem degradeS05_keeps (i : StartIn) (c : RefCheck) (s : State) : KeepsCause s (degradeS05 i c s) := by
  have ha : Quiet s (degrade 5 { s with clk := { s.clk with absent := true } }) := .of_view (by rfl)
  have hw := ha.keeps.trans (writeLedger_keeps (fun l => { l with altMask := l.altMask ||| (1 <<< 5) }) (fun _ => rfl) _)
  exact (hw.trans ((raiseFlag_quiet flagRefLost 0x0204 (arg (refReason c)) _).trans (setFault_quiet _)).keeps).trans
    (stepBanks_keeps i _)

theorem stepS05_keeps (i : StartIn) (s : State) : KeepsCause s (stepS05 i s) := by
  have hr : Quiet s { s with clk := { s.clk with refOn := true } } := .of_view (by rfl)
  have hb := hr.keeps.trans (beginStep_keeps 5 _)
  exact .ite hb (.ite (hb.trans (passS05_keeps i _)) (hb.trans (degradeS05_keeps i i.ref _)))

theorem spendTag_quiet (s : State) : Quiet s (spendTag s) := .of_view (by rfl)

theorem stepS04_keeps (i : StartIn) (s : State) : KeepsCause s (stepS04 i s) := by
  have hb := beginStep_keeps 4 s
  unfold stepS04
  generalize beginStep 4 s = t at hb ⊢
  have h1 := hb.trans (spendTag_quiet t).keeps
  have h2 := h1.trans (spendTag_quiet _).keeps
  dsimp only
  split
  · exact hb
  · split
    · exact (h1.trans (Quiet.of_view (by rfl)).keeps).trans (stepS05_keeps i _)
    · exact h1.trans (startFails_keeps 4 0x31 _)
    · split
      · exact (h2.trans (Quiet.of_view (by rfl)).keeps).trans (stepS05_keeps i _)
      · exact h2.trans (startFails_keeps 4 0x31 _)
      · exact h2.trans (startFails_keeps 4 0x30 _)

/-! ## S03 to S01 -/

theorem logSub_quiet (p v : Nat) (s : State) : Quiet s (logSub p v s) := (raiseFlag_quiet _ _ _ s).trans (setFault_quiet _)

theorem logChange_quiet (p old new : Nat) (s : State) : Quiet s (logChange p old new s) :=
  (raiseFlag_quiet flagStrap 0x0A06 _ s).trans (.of_view (by rfl))

theorem logCodes_quiet (s : State) : Quiet s (logCodes s) := by
  refine .foldl (fun t k => ?_) _ s
  dsimp only
  split
  · exact logSub_quiet _ _ t
  · split
    · exact .refl t
    · split
      · exact .ite (logChange_quiet _ _ _ t) (.refl t)
      · exact .refl t

theorem logLevel_quiet (k : Idx3) (r : Option Bool) (s : State) : Quiet s (logLevel k r s) := by
  unfold logLevel
  split
  · exact logSub_quiet _ _ s
  · split
    · exact .ite (logChange_quiet _ _ _ s) (.refl s)
    · exact .refl s

theorem keepCodes_quiet (t : Straps) (s : State) : Quiet s (keepCodes t s) :=
  (Quiet.trans (.of_view (by rfl)) (raise_quiet _ _ _)).trans (logCodes_quiet _)

theorem keepLevels_quiet (i : StartIn) (t : Straps) (s : State) : Quiet s (keepLevels i t s) :=
  .trans (.of_view (by rfl)) (((logLevel_quiet .one _ _).trans (logLevel_quiet .two _ _)).trans (logLevel_quiet .three _ _))

theorem afterS03_keeps (i : StartIn) (t : Straps) (s : State) : KeepsCause s (afterS03 i t s) :=
  .ite ((keepCodes_quiet t s).keeps.trans (enterBasalt_keeps _)) ((keepCodes_quiet t s).keeps.trans (stepS04_keeps i _))

theorem fallS03_keeps (i : StartIn) (s : State) : KeepsCause s (fallS03 i s) := afterS03_keeps i _ s

theorem stepS03_keeps (i : StartIn) (s : State) : KeepsCause s (stepS03 i s) := by
  have hb := beginStep_keeps 3 s
  unfold stepS03
  generalize beginStep 3 s = u at hb ⊢
  dsimp only
  split
  · exact hb
  · split
    · exact hb.trans (afterS03_keeps i _ u)
    · exact hb
    · exact hb.trans (earlyFails_keeps 3 _ (fun t => (keepCodes_quiet _ t).keeps) (fallS03_keeps i) u)

theorem enterFactory_keeps (s : State) : KeepsCause s (enterFactory s) :=
  (Quiet.of_view (by rfl)).keeps.trans (writeLedger_keeps (fun l => { l with startActive := false }) (fun _ => rfl) _)

theorem fallS02_keeps (i : StartIn) (s : State) : KeepsCause s (fallS02 i s) :=
  (keepLevels_quiet i _ s).keeps.trans (stepS03_keeps i _)

theorem stepS02_keeps (i : StartIn) (s : State) : KeepsCause s (stepS02 i s) := by
  have hb := beginStep_keeps 2 s
  unfold stepS02
  generalize beginStep 2 s = u at hb ⊢
  dsimp only
  split
  · exact hb
  · split
    · exact hb.trans (enterFactory_keeps u)
    · exact (hb.trans (keepLevels_quiet i _ u).keeps).trans (stepS03_keeps i _)
    · exact hb.trans (earlyFails_keeps 2 _ (fun t => (keepLevels_quiet i _ t).keeps) (fallS02_keeps i) u)

/-- The shadows are loaded from the array, which stays. -/
theorem loadFuses_quiet (ws : List (BitVec 32)) (s : State) : Quiet s (loadFuses ws s) := .of_view (by rfl)

theorem fallS01_keeps (i : StartIn) (s : State) : KeepsCause s (fallS01 i s) :=
  (loadFuses_quiet _ s).keeps.trans (stepS02_keeps i _)

theorem stepS01_keeps (i : StartIn) (s : State) : KeepsCause s (stepS01 i s) := by
  have hb := beginStep_keeps 1 s
  unfold stepS01
  generalize beginStep 1 s = u at hb ⊢
  have he := fun r => hb.trans (earlyFails_keeps 1 r (keep := id) (fun t => .refl t) (fallS01_keeps i) u)
  exact .ite hb (.ite (he 0x10) (.ite (he 0x11) (hb.trans (fallS01_keeps i u))))

/-! ## S00 -/

theorem checkBackup_frame (i : StartIn) (s : State) : StartFrame s (checkBackup i s) := by
  unfold checkBackup
  dsimp only
  split <;> exact ⟨rfl, rfl, rfl, rfl⟩

theorem dropBasaltAlarm_keeps (s : State) : KeepsCause s (dropBasaltAlarm s) :=
  .ite (commitNow_keeps .alarmClear s nofun) (.refl s)

/-- A start that was cut short is recorded or dropped; the cause in the ledger stays that of the start before (R152). -/
theorem closePrevious_keeps (c : BitVec 3) (s : State) : KeepsCause s (closePrevious c s) :=
  .ite (.ite (recordFailure_keeps _ _ s) (.ite (writeLedger_keeps (fun l => { l with startActive := false }) (fun _ => rfl) s) (.refl s)))
    (.refl s)

theorem leaveByPin_keeps (c : BitVec 3) (s : State) : KeepsCause s (leaveByPin c s) := by
  have ho : Quiet s { s with start := { s.start with owed := true } } := .of_view (by rfl)
  exact .ite ((ho.keeps.trans (writeLedger_keeps (fun l => { l with basalt := false, failCount := 0 }) (fun _ => rfl) _)).trans
    (raise_keeps 0x0A04 (arg 0) _)) (.refl s)

/-- The state with which S00 begins: the core runs on the RC, RESET_N is released, and nothing is held. -/
def startBegun (cause : BitVec 3) (i : StartIn) (s : State) : State :=
  { s with
    clk := { Clk.reset with core := true },
    power := { s.power with state := .run, trans := .none, resetLow := false, heldTick := false, heldMgmt := none, heldWake := false,
                            heldMatcher := false },
    straps := { s.straps with changed := false },
    eva := { s.eva with withhold := s.bkd.lost },
    start := { Start.reset with phase := .step 0, cause := cause, input := some i, owed := s.start.owed } }

/-- S00 up to the ledger's new cause. -/
def startChecked (cause : BitVec 3) (i : StartIn) (s : State) : State :=
  leaveByPin cause (closePrevious cause (afterWake (dropBasaltAlarm (checkBackup i (settle (startBegun cause i s))))))

/-- A start writes its cause into the ledger, and S01 follows. -/
theorem runStart_eq (cause : BitVec 3) (i : StartIn) (s : State) :
    let t := startChecked cause i (keepBanks i.banksHeld s)
    runStart cause i s = stepS01 i (writeLedger (fun l => { l with resetCause := cause, startActive := true, stepReached := 0 })
      { t with start := { t.start with afterFail := t.bkd.ledger.failCount != 0 } }) := rfl

theorem startChecked_frame (cause : BitVec 3) (i : StartIn) (s : State) :
    StartFrame (startBegun cause i s) (startChecked cause i s) :=
  (((((settle_frame _).trans (checkBackup_frame i _)).trans (dropBasaltAlarm_keeps _).toStartFrame).trans
    (afterWake_quiet _).toStartFrame).trans (closePrevious_keeps cause _).toStartFrame).trans (leaveByPin_keeps cause _).toStartFrame

theorem keepBanks_quiet (held : Bool) (s : State) : Quiet s (keepBanks held s) := .ite (.refl s) (.of_view (by rfl))

/-- What every start leaves: its cause in the ledger, the fuses and the part as they were, and RESET_N released (R57, R145). -/
theorem runStart_started (cause : BitVec 3) (i : StartIn) (s : State) :
    (runStart cause i s).bkd.ledger.resetCause = cause ∧ (runStart cause i s).fuse.words = s.fuse.words ∧
    SamePart s (runStart cause i s) ∧ (runStart cause i s).power.resetLow = false ∧ (runStart cause i s).pending = s.pending := by
  rw [runStart_eq]
  have hk := keepBanks_quiet i.banksHeld s
  generalize keepBanks i.banksHeld s = u at hk ⊢
  have hf := startChecked_frame cause i u
  dsimp only
  generalize startChecked cause i u = v at hf ⊢
  have hv : StartFrame (startBegun cause i u) { v with start := { v.start with afterFail := v.bkd.ledger.failCount != 0 } } :=
    hf.trans ⟨rfl, rfl, rfl, rfl⟩
  generalize ({ v with start := { v.start with afterFail := v.bkd.ledger.failCount != 0 } } : State) = x at hv ⊢
  have hw := writeLedger_frame (fun l => { l with resetCause := cause, startActive := true, stepReached := 0 }) x
  have hc : HasCause cause _ := writeLedger_hasCause (fun l => { l with resetCause := cause, startActive := true, stepReached := 0 }) x
  have hs := stepS01_keeps i (writeLedger (fun l => { l with resetCause := cause, startActive := true, stepReached := 0 }) x)
  have h := (hv.trans hw).trans hs.toStartFrame
  exact ⟨(hs.cause cause hc).1, h.words.trans hk.words, (samePart_iff _ _).mpr (h.part.trans hk.part), h.low,
    h.pending.trans hk.pending⟩

/-! ## The commands that begin a start -/

section Begun
variable {s : State} (i : StartIn) (hp : s.power.pwron = true)
include hp

theorem exec_corePorRelease (hg : s.power.vbatGood = true) (ha : s.bkd.alive = true) (hr : s.start.phase = .inReset)
    (hl : s.power.resetLow = false) : exec (.corePorRelease i) s = .next (runStart s.start.cause i s) := by
  simp [exec, execCorePorRelease, hp, hg, ha, hr, hl]

theorem exec_resetNReleased (hg : s.power.vbatGood = true) (ha : s.bkd.alive = true) (hr : s.start.phase = .inReset)
    (hl : s.power.resetLow = true) : exec (.resetNReleased i) s = .next (runStart s.start.cause i s) := by
  simp [exec, execResetNReleased, hp, hg, ha, hr, hl]

theorem exec_restartDelayExpiry (hd : s.start.phase = .delay) (hl : s.power.resetLow = false) :
    exec (.restartDelayExpiry i) s = .next (runStart 6 i s) := by
  simp [exec, execRestartDelayExpiry, hp, hd, hl]

end Begun

/-- Settles O5: each of the three commands runs the start, and every start leaves what is stated. -/
theorem startRecordsItsCause : Obligations.StartRecordsItsCause := by
  refine fun s i hp hg ha => ⟨fun hr hl => ?_, fun hr hl => ?_, fun hd hl => ?_⟩
  · exact ⟨_, exec_corePorRelease i hp hg ha hr hl, runStart_started _ i s⟩
  · exact ⟨_, exec_resetNReleased i hp hg ha hr hl, runStart_started _ i s⟩
  · exact ⟨_, exec_restartDelayExpiry i hp hd hl, runStart_started 6 i s⟩

end Sys2Proof.Machine
end

section
/-!
PROOF. What the controllers' own moves leave alone: votes, requests to the regulator and to MEMC, and the management core's work at a
tick.
-/
namespace Sys2Proof.Machine

/-! ## Power and the regulator link only -/

/-- Only the power controller and the regulator link move, and neither the transition nor a held management tick changes. -/
structure PowerOnly (s t : State) : Prop where
  rest : t = { s with power := t.power, prq := t.prq }
  held : t.power.heldMgmt = s.power.heldMgmt
  trans : t.power.trans = s.power.trans

/-- Besides, MEMC may be asked for something; the memory's contents and parameters stay. -/
structure ControlOnly (s t : State) : Prop where
  rest : t = { s with mem := { s.mem with busy := t.mem.busy, suspended := t.mem.suspended, queue := t.mem.queue },
                      power := t.power, prq := t.prq }
  held : t.power.heldMgmt = s.power.heldMgmt
  trans : t.power.trans = s.power.trans

theorem PowerOnly.refl (s : State) : PowerOnly s s := ⟨rfl, rfl, rfl⟩

theorem PowerOnly.comp {s t u : State} (h : PowerOnly s t) (k : PowerOnly t u) : PowerOnly s u :=
  ⟨by rw [k.rest, h.rest], k.held.trans h.held, k.trans.trans h.trans⟩

theorem PowerOnly.control {s t : State} (h : PowerOnly s t) : ControlOnly s t := ⟨by rw [h.rest], h.held, h.trans⟩

theorem ControlOnly.refl (s : State) : ControlOnly s s := (PowerOnly.refl s).control

theorem ControlOnly.comp {s t u : State} (h : ControlOnly s t) (k : ControlOnly t u) : ControlOnly s u :=
  ⟨by rw [k.rest, h.rest], k.held.trans h.held, k.trans.trans h.trans⟩

theorem PowerOnly.ite {p : Prop} [Decidable p] {s t u : State} (ht : PowerOnly s t) (hu : PowerOnly s u) :
    PowerOnly s (if p then t else u) := by
  split <;> assumption

/-- A state with other votes or timers in the power controller. -/
theorem PowerOnly.of_power {s : State} {p : Power} (hh : p.heldMgmt = s.power.heldMgmt) (ht : p.trans = s.power.trans) :
    PowerOnly s { s with power := p } := ⟨rfl, hh, ht⟩

theorem revote_powerOnly {f : Power → Power} {s : State} (hh : (f s.power).heldMgmt = s.power.heldMgmt)
    (ht : (f s.power).trans = s.power.trans) : PowerOnly s (revote f s) := by
  have hr := (Power.revote_eq s.power (f s.power)).1
  refine .of_power ?_ ?_ <;> rw [hr]
  · exact hh
  · exact ht

theorem voteFor_powerOnly (c : Client) (v : BitVec 2) (s : State) : PowerOnly s (voteFor c v s) :=
  revote_powerOnly (by cases c <;> rfl) (by cases c <;> rfl)

theorem retime_powerOnly (s : State) : PowerOnly s (retime s) := .ite (.of_power rfl rfl) (.refl s)

theorem reach_powerOnly (s : State) : PowerOnly s (reach s) := .ite (.of_power rfl rfl) (retime_powerOnly s)

theorem Power.aim_keeps (n : BitVec 3) (p : Power) : (p.aim n).heldMgmt = p.heldMgmt ∧ (p.aim n).trans = p.trans := by
  unfold Power.aim
  split
  · exact ⟨rfl, rfl⟩
  · split
    · exact ⟨rfl, rfl⟩
    · exact ⟨rfl, rfl⟩

/-- A STATE target takes effect in the power controller (R396, R408). -/
theorem applyTarget_powerOnly (n : BitVec 3) (s : State) : PowerOnly s (applyTarget n s) := by
  obtain ⟨hh, ht⟩ := Power.aim_keeps n s.power
  have ha : PowerOnly s (revote (Power.aim n) s) := revote_powerOnly hh ht
  exact .ite (ha.comp (reach_powerOnly _)) ha

theorem takeLatched_powerOnly (s : State) : PowerOnly s (takeLatched s) := by
  unfold takeLatched
  split
  · exact .ite ((PowerOnly.of_power (by rfl) (by rfl)).comp (applyTarget_powerOnly _ _)) (.refl s)
  · exact .refl s

/-- During a power-fail warning no park entry begins (Table 12.6 step 4). -/
theorem parkNow_of_stop {s : State} (h : s.seq.pfStop = true) : parkNow s = s := by
  unfold parkNow
  split
  · rfl
  · simp [State.parkReady, h]

theorem tryPark_powerOnly {s : State} (h : s.seq.pfStop = true) : PowerOnly s (tryPark s) := by
  have hl := takeLatched_powerOnly s
  have hs : (takeLatched s).seq.pfStop = true := by rw [hl.rest]; exact h
  rw [tryPark, parkNow_of_stop hs]
  exact hl

theorem releaseVdrv_powerOnly (s : State) : PowerOnly s (releaseVdrv s) := .ite ⟨rfl, rfl, rfl⟩ (.refl s)

/-- The votes of a cycle are withdrawn (Table 8.2 step 13). -/
theorem withdraw_powerOnly (s : State) : PowerOnly s (withdraw s) := by
  have hv : PowerOnly s (revote (fun p => { p with seq := 2, tiu := if s.tiu.testing then p.tiu else 2, fe := 2 }) s) :=
    revote_powerOnly rfl rfl
  exact hv.comp (.ite (.refl _) (voteFor_powerOnly .ee 2 _))

theorem holdRun_powerOnly (s : State) : PowerOnly s (holdRun s) := .ite (.of_power rfl rfl) (.refl s)

/-! ## Requests to MEMC -/

theorem LogsOnly.control {s t : State} (h : LogsOnly s t) (he : t.eva = s.eva) : ControlOnly s t := by
  refine ⟨?_, ?_, ?_⟩
  · conv => lhs; rw [h.1]
    rw [he]
    conv => rhs; rw [h.1]
  · rw [h.1]
  · rw [h.1]

theorem requestMem_control (r : MemReq) (s : State) : ControlOnly s (requestMem r s) :=
  (requestMem_logsOnly r s).control (requestMem_eva r s)

theorem powerFailSave_control (s : State) : ControlOnly s (powerFailSave s) := by
  unfold powerFailSave
  split
  · have hs : ControlOnly s (if s.save.current then s else requestMem (.save true 1 none) s) := by
      split
      · exact .refl s
      · exact requestMem_control _ s
    refine hs.comp ?_
    generalize (if s.save.current then s else requestMem (.save true 1 none) s) = t
    unfold when
    dsimp only
    split
    · exact requestMem_control _ t
    · exact .refl t
  · exact .refl s

/-! ## The management core's work -/

/-- The memory's contents, the registers, the L-die and the sequencer stay, but for a gain calibration that may fall due (Table 7.9). -/
structure Worked (s t : State) : Prop where
  bytes : SameMemory s t
  ee : t.ee = s.ee
  phy : t.phy = s.phy
  seq : t.seq = { s.seq with gainDue := t.seq.gainDue }

/-- All of a state that the frame speaks of. -/
def State.workView (s : State) : Mem × Ee × Phy × Seq := (s.mem, s.ee, s.phy, s.seq)

theorem Worked.of_view {s t : State} (h : t.workView = s.workView) : Worked s t := by
  simp only [State.workView, Prod.mk.injEq] at h
  obtain ⟨hm, he, hp, hq⟩ := h
  exact ⟨fun a => by rw [hm], he, hp, by rw [hq]⟩

theorem Worked.refl (s : State) : Worked s s := .of_view rfl

theorem Worked.trans {s t u : State} (h : Worked s t) (k : Worked t u) : Worked s u :=
  ⟨fun a => (k.bytes a).trans (h.bytes a), k.ee.trans h.ee, k.phy.trans h.phy, by rw [k.seq, h.seq]⟩

theorem ControlOnly.worked {s t : State} (h : ControlOnly s t) : Worked s t := by
  rw [h.rest]; exact ⟨fun _ => rfl, rfl, rfl, rfl⟩

theorem LogsOnly.worked {s t : State} (h : LogsOnly s t) : Worked s t := by
  rw [h.1]; exact ⟨fun _ => rfl, rfl, rfl, rfl⟩

theorem Worked.ite {p : Prop} [Decidable p] {s t u : State} (ht : Worked s t) (hu : Worked s u) : Worked s (if p then t else u) := by
  split <;> assumption

theorem Worked.foldl {α : Type} {f : State → α → State} (h : ∀ t a, Worked t (f t a)) :
    ∀ (xs : List α) (s : State), Worked s (xs.foldl f s)
  | [], s => .refl s
  | x :: xs, s => (h s x).trans (Worked.foldl h xs (f s x))

theorem raise_worked (c : BitVec 16) (a : List (BitVec 32)) (s : State) : Worked s (raise c a s) := (raise_logs c a s).1.worked

theorem request_worked (c : Commit) (s : State) : Worked s (request c s) := .of_view rfl

theorem requestMem_worked (r : MemReq) (s : State) : Worked s (requestMem r s) := (requestMem_logsOnly r s).worked

theorem dogEvents_worked (n : Nat) : ∀ (k : Nat) (s : State), Worked s (dogEvents n k s)
  | 0, s => .refl s
  | k + 1, s => (raise_worked _ _ s).trans (dogEvents_worked n k _)

theorem logDogs_worked (s : State) : Worked s (logDogs s) := .trans (.of_view (by rfl)) (dogEvents_worked _ _ _)

theorem reportHours_worked (s : State) (p : Idx3) : Worked s (reportHours s p) :=
  .trans (.of_view (by rfl)) (.foldl (fun t _ => raise_worked _ _ t) _ _)

theorem checkLimit_worked (r : Readings) (s : State) (k : Nat) : Worked s (checkLimit r s k) := by
  have ho : ∀ o, Worked s { s with hmc := { s.hmc with outside := o } } := fun _ => .of_view rfl
  unfold checkLimit
  dsimp only
  split
  · exact (ho _).trans (raise_worked _ _ _)
  · exact ho _

theorem logSensors_worked (r : Readings) (s : State) : Worked s (logSensors r s) := by
  unfold logSensors
  exact .ite (.trans (.of_view (by rfl)) (raise_worked _ _ _)) (.refl s)

/-- The sensors are read; that a gain calibration falls due by them is all that the sequencer sees. -/
theorem readSensors_worked (r : Readings) (s : State) : Worked s (readSensors r s) := by
  have hg : Worked s { s with hmc := { s.hmc with die100 := r.die100 },
                              seq := { s.seq with gainDue := s.seq.gainDue || decide (150 ≤ (r.die100 - s.hmc.dieAtCal).natAbs) } } :=
    ⟨fun _ => rfl, rfl, rfl, rfl⟩
  exact (hg.trans (.foldl (fun t k => checkLimit_worked r t k) (List.range 5) _)).trans (logSensors_worked r _)

theorem compensate_worked (s : State) : Worked s (compensate s) := by
  unfold compensate
  exact .ite (.trans (.of_view (by rfl)) (request_worked _ _)) (.refl s)

theorem scheduledSave_worked (s : State) : Worked s (scheduledSave s) := by
  unfold scheduledSave
  exact .ite (.trans (.of_view (by rfl)) (requestMem_worked _ _)) (.refl s)

theorem writeAlive_worked (s : State) : Worked s (writeAlive s) := by
  unfold writeAlive
  split
  · exact request_worked _ s
  · exact .refl s

theorem writeLog_worked (s : State) : Worked s (writeLog s) := .ite (requestMem_worked _ s) (.refl s)

theorem releaseFault_worked (s : State) : Worked s (releaseFault s) := .ite (.refl s) (request_worked _ s)

theorem serveAlarm_worked (s : State) : Worked s (serveAlarm s) := .ite (request_worked _ s) (.refl s)

/-- The whole work of a tick (R494 to R498). -/
theorem manage_worked (r : Sensors) (s : State) : Worked s (manage r s) := by
  have h1 := ((serveAlarm_worked s).trans (logDogs_worked _)).trans (.foldl reportHours_worked Idx3.all _)
  have h2 := (h1.trans (readSensors_worked (s.corrected r) _)).trans (compensate_worked _)
  have h3 := ((h2.trans (scheduledSave_worked _)).trans (writeAlive_worked _)).trans (writeLog_worked _)
  have he : ∀ t : State, Worked t { t with hmc := { t.hmc with tickS := some t.now, dog := 0 },
                                           power := { t.power with heldMgmt := none },
                                           bkd := { t.bkd with strobe := false } } := fun _ => .of_view rfl
  exact (h3.trans (releaseFault_worked _)).trans (he _)

theorem takeMgmt_worked (s : State) : Worked s (takeMgmt s) := by
  unfold takeMgmt
  split
  · exact .ite (((voteFor_powerOnly .hmc 0 s).control.worked.trans (manage_worked _ _)).trans (memVote_logsOnly _).worked) (.refl s)
  · exact .refl s

theorem takeMgmt_none {s : State} (h : s.power.heldMgmt = none) : takeMgmt s = s := by
  unfold takeMgmt; rw [h]

end Sys2Proof.Machine
end

section
/-!
PROOF. The power-fail and battery commands (R61, R350, R351, Table 12.6): what the save asks of MEMC, what the warning's
log leaves alone, and how a cycle and a sweep are abandoned.
-/
namespace Sys2Proof.Machine

/-! ## What MEMC takes up for a power-fail save -/

/-- MEMC has something to do. -/
def Mem.waits (m : Mem) : Bool := m.busy.isSome || !m.suspended.isEmpty || !m.queue.isEmpty

theorem serve_waits {regs : List Byte} {m : Mem} (h : m.waits = true) : (m.serve regs).waits = true := by
  unfold Mem.serve
  split
  · exact h
  · split
    · exact h
    · rfl
    · rfl
    · split <;> rfl

theorem ask_waits (regs : List Byte) (r : MemReq) (m : Mem) : (m.ask regs r).waits = true := by
  have hq : ∀ (b : Option MemReq) (e : List MemReq), ({ m with queue := m.queue ++ [r], busy := b, suspended := e } : Mem).waits = true := by
    intro b e; simp [Mem.waits]
  unfold Mem.ask
  dsimp only
  split
  · split
    · exact serve_waits (hq none _)
    · exact hq _ _
  · exact serve_waits (hq _ _)

/-- In RUN a vote of the management core for RUN changes neither the state nor the idle timer that stands still. -/
theorem voteHmc_run {s : State} (hr : s.power.state = .run) (hi : s.power.idleTimer = false) :
    (voteFor .hmc 0 s).power.state = .run ∧ (voteFor .hmc 0 s).power.idleTimer = false := by
  have ht : (s.power.setVote .hmc 0).target = 0 := by simp [Power.setVote, Power.target]
  unfold voteFor revote Power.revote
  dsimp only
  split
  · exact ⟨hr, hi⟩
  · split
    · exact ⟨by simp [Power.setVote, hr], rfl⟩
    · rw [ht]
      exact ⟨hr, hi⟩

/-- While MEMC has something to do the vote for it keeps the device in RUN. -/
theorem memVote_run {s : State} (hw : s.mem.waits = true) (hr : s.power.state = .run) (hi : s.power.idleTimer = false) :
    (memVote s).power.state = .run ∧ (memVote s).power.idleTimer = false := by
  unfold memVote
  split
  · exact ⟨hr, hi⟩
  · unfold Mem.waits at hw
    rw [if_pos hw]
    exact voteHmc_run hr hi

theorem begins_waits {s : State} (h : s.mem.waits = true) : (begins s).mem.waits = true := by
  simpa [Mem.waits, begins] using h

theorem requestMem_run {s : State} (r : MemReq) (hr : s.power.state = .run) (hi : s.power.idleTimer = false) :
    (requestMem r s).power.state = .run ∧ (requestMem r s).power.idleTimer = false :=
  memVote_run (begins_waits (ask_waits s.snap.regs r s.mem)) hr hi

theorem powerFailSave_run {s : State} (hr : s.power.state = .run) (hi : s.power.idleTimer = false) :
    (powerFailSave s).power.state = .run ∧ (powerFailSave s).power.idleTimer = false := by
  unfold powerFailSave
  split
  · have hs : (if s.save.current then s else requestMem (.save true 1 none) s).power.state = .run ∧
        (if s.save.current then s else requestMem (.save true 1 none) s).power.idleTimer = false := by
      split
      · exact ⟨hr, hi⟩
      · exact requestMem_run _ hr hi
    generalize (if s.save.current then s else requestMem (.save true 1 none) s) = t at hs ⊢
    unfold when
    dsimp only
    split
    · exact requestMem_run _ hs.1 hs.2
    · exact hs
  · exact ⟨hr, hi⟩

@[simp] theorem memVote_mem (s : State) : (memVote s).mem = s.mem := by rw [(memVote_eq s).1]

/-- What MEMC has to do does not bear on what its memory reads. -/
theorem bytesSlow_control (m : Mem) (b : Option MemReq) (e q : List MemReq) (a n : Nat) :
    ({ m with busy := b, suspended := e, queue := q } : Mem).bytesSlow a n = m.bytesSlow a n := by
  induction n generalizing a with
  | zero => rfl
  | succ n ih => exact congrArg (m.byte a :: ·) (ih (a + 1))

theorem bytes_control (m : Mem) (b : Option MemReq) (e q : List MemReq) (a n : Nat) :
    ({ m with busy := b, suspended := e, queue := q } : Mem).bytes a n = m.bytes a n := by
  unfold Mem.bytes
  rw [bytesSlow_control]

/-- Two states with the same slot to save to and the same bytes in the memory. -/
structure SameSlot (s t : State) : Prop where
  mem : t.mem = { s.mem with busy := t.mem.busy, suspended := t.mem.suspended, queue := t.mem.queue }
  pos : t.save.pos = s.save.pos
  slot : t.save.slot = s.save.slot
  dirty : t.save.eraseFirst = s.save.eraseFirst

theorem SameSlot.erases {s t : State} (h : SameSlot s t) : t.saveErases = s.saveErases := by
  unfold State.saveErases
  rw [h.mem, bytes_control, h.pos, h.slot, h.dirty]

theorem SameSlot.firstOf {s t : State} (h : SameSlot s t) (pf : Bool) (k : Byte) (b : Option (List Byte)) :
    t.firstOf (.save pf k b) = s.firstOf (.save pf k b) := by
  simp only [State.firstOf, h.erases]

theorem ControlOnly.sameSlot {s t : State} (h : ControlOnly s t) : SameSlot s t := by
  rw [h.rest]; exact ⟨rfl, rfl, rfl, rfl⟩

theorem begins_busy (s : State) : (begins s).mem.busy = s.mem.busy.map s.firstOf := rfl

/-- Where MEMC is idle a power-fail save is taken up at once, with the registers of the snapshot in use (R125, R348). -/
theorem requestSave_busy {s : State} (hb : s.mem.busy = none) (hs : s.mem.suspended = []) (hq : s.mem.queue = []) :
    (requestMem (.save true 1 none) s).mem.busy = some (s.firstOf (.save true 1 (some s.snap.regs))) := by
  have ha : s.mem.ask s.snap.regs (.save true 1 none) = { s.mem with busy := some (.save true 1 (some s.snap.regs)), queue := [] } := by
    simp [Mem.ask, Mem.serve, nextReq, takeRank, MemReq.rank, MemReq.withBody, hb, hs, hq]
  have hk : SameSlot s { s with mem := { s.mem with busy := some (.save true 1 (some s.snap.regs)), queue := [] } } :=
    ⟨rfl, rfl, rfl, rfl⟩
  rw [requestMem, memVote_mem, ha, begins_busy]
  exact congrArg some (hk.firstOf true 1 _)

/-- The first instruction of a save, an erase or the record, is no erase that can be suspended. -/
theorem firstOf_save_isErase (s : State) (pf : Bool) (k : Byte) (b : Option (List Byte)) :
    (s.firstOf (.save pf k b)).isErase = false := by
  cases h : s.saveErases <;> simp [State.firstOf, h, MemReq.isErase]

/-- The first instruction of a save begins with itself. -/
theorem SameSlot.firstOf_twice {s t : State} (h : SameSlot s t) (pf : Bool) (k : Byte) (b : Option (List Byte)) :
    t.firstOf (s.firstOf (.save pf k b)) = s.firstOf (.save pf k b) := by
  cases hs : s.saveErases <;> simp [State.firstOf, h.erases, hs]

/-- A save in progress that has begun stays as it is. -/
theorem SameSlot.begins_same {s t : State} (h : SameSlot s t) {pf : Bool} {k : Byte} {b : Option (List Byte)}
    (hb : t.mem.busy = some (s.firstOf (.save pf k b))) : (begins t).mem.busy = some (s.firstOf (.save pf k b)) := by
  rw [begins_busy, hb]
  exact congrArg some (h.firstOf_twice pf k b)

/-- A request for a log write waits behind a save in progress. -/
theorem requestLog_busy {s t : State} {pf : Bool} {k : Byte} {b : Option (List Byte)} (h : SameSlot s t)
    (hb : t.mem.busy = some (s.firstOf (.save pf k b))) :
    (requestMem .log t).mem.busy = some (s.firstOf (.save pf k b)) := by
  have ha : t.mem.ask t.snap.regs .log = { t.mem with queue := t.mem.queue ++ [.log] } := by
    simp [Mem.ask, hb, firstOf_save_isErase]
  have hk : SameSlot s { t with mem := { t.mem with queue := t.mem.queue ++ [.log] } } :=
    ⟨by rw [h.mem], h.pos, h.slot, h.dirty⟩
  rw [requestMem, memVote_mem, ha]
  exact hk.begins_same hb

theorem powerFailSave_busy {s : State} (hu : s.mem.usable = true) (hc : s.save.current = false) (hb : s.mem.busy = none)
    (hs : s.mem.suspended = []) (hq : s.mem.queue = []) :
    (powerFailSave s).mem.busy = some (s.firstOf (.save true 1 (some s.snap.regs))) := by
  have hr := requestSave_busy hb hs hq
  have hk := (requestMem_control (.save true 1 none) s).sameSlot
  rw [powerFailSave, if_pos hu, hc]
  simp only [Bool.false_eq_true, if_false]
  unfold when
  split
  · exact requestLog_busy hk hr
  · exact hr

/-! ## An event that leaves MEMC alone -/

theorem grant_queue_length (v : Eva) (d : BitVec 32) (c : BitVec 16) (x : BitVec 32) :
    (v.grant d ⟨c, [x]⟩).queue.length ≤ v.queue.length + 1 := by
  have hq : (v.enqueue v.next (recordsOf v.next d ⟨c, [x]⟩)).queue.length ≤ v.queue.length + 1 := by
    unfold Eva.enqueue
    split
    · simp [recordsOf]
    · simp
  unfold Eva.grant
  split
  · exact hq
  · split
    · split <;> simp
    · dsimp only
      split <;> simp

/-- One record more does not fill half the event queue: MEMC is not asked (R501). -/
theorem raise_mem {s : State} (c : BitVec 16) (x : BitVec 32) (h : s.eva.queue.length < 31) : (raise c [x] s).mem = s.mem := by
  have hg := grant_queue_length s.eva s.now c x
  have hl : ∀ t : State, t.eva.queue.length < 32 → logWhenHalf t = t := by
    intro t ht
    unfold logWhenHalf
    rw [if_neg]
    simp [Nat.not_le.mpr ht]
  unfold raise
  split
  · rw [hl _ (by show (s.eva.grant s.now ⟨c, [x]⟩).queue.length < 32; omega)]
    unfold workMoment
    split
    · rw [memVote_mem]; rfl
    · rfl
  · rfl

/-! ## The warning -/

/-- The warning noted: counted, held up, and no new cycle from now on. -/
def State.warn (s : State) : State :=
  { s with phy := { s.phy.stopInsertion with powerFail := true, holdUp := true, powerFails := s.phy.powerFails + 1 },
           seq := { s.seq with pfStop := true } }

/-- The warning noted and logged. -/
def State.warned (s : State) : State := raiseFlag flagPowerfail 0x0207 (arg 0) s.warn

/-- What the warning's log leaves of a device, whatever the controllers do besides. -/
structure Warned (s t : State) : Prop where
  seq : t.seq = s.warn.seq
  phy : t.phy = s.warn.phy
  flags : t.flags = s.flags.set 4 (s.flags.getD 4 ⟨false, 0, 0⟩).occur
  eva : t.eva = s.arrivals [⟨0x0207, [0]⟩]
  bytes : SameMemory s t
  measures : SameMeasurement s t
  bkd : t.bkd = s.bkd

theorem warned_warned (s : State) : Warned s s.warned := by
  have hl := raise_logs 0x0207 (arg 0) s.warn
  refine ⟨raise_seq _ _ _, raise_phy _ _ _, ?_, hl.2, hl.1.sameMemory, ?_, raise_bkd _ _ _⟩
  · show (raise 0x0207 (arg 0) s.warn).flags.set 4 ((raise 0x0207 (arg 0) s.warn).flags.getD 4 ⟨false, 0, 0⟩).occur = _
    rw [raise_flags]
    rfl
  · exact ⟨raise_afe _ _ _, raise_tiu _ _ _, raise_fe _ _ _, raise_ag _ _ _, raise_temp _ _ _, raise_ee _ _ _⟩

theorem Warned.control {s t u : State} (h : Warned s t) (k : ControlOnly t u) : Warned s u := by
  rw [k.rest]
  exact ⟨h.seq, h.phy, h.flags, h.eva, h.bytes, h.measures, h.bkd⟩

theorem warned_power (s : State) : s.warned.power.trans = s.power.trans ∧ s.warned.power.heldMgmt = s.power.heldMgmt := by
  have hp : s.warned.power = (raise 0x0207 (arg 0) s.warn).power := rfl
  rw [hp, (raise_logs 0x0207 (arg 0) s.warn).1.1]
  exact ⟨rfl, rfl⟩

theorem warned_cyclesRun (s : State) : s.warned.cyclesRun = s.cyclesRun := by
  have hs : s.warned.start = s.start := raise_start _ _ _
  have ha : s.warned.awake = s.awake := raise_awake _ _ s.warn
  unfold State.cyclesRun State.cycling
  rw [hs, ha]

/-- The sequencer's phase and kind, and so whether a pair or a sweep runs, are those of before the warning. -/
theorem warned_inPair (s : State) : s.warned.inPair = s.inPair := by
  unfold State.inPair; rw [(warned_warned s).seq]; rfl

theorem warned_inSweep (s : State) : s.warned.inSweep = s.inSweep := by
  unfold State.inSweep; rw [(warned_warned s).seq]; rfl

/-! ## What an abandoned cycle, sweep or job leaves -/

/-- The memory's contents, the registers, the L-die and the stop of cycles stay. -/
structure Steady (s t : State) : Prop where
  bytes : SameMemory s t
  ee : t.ee = s.ee
  phy : t.phy = s.phy
  stop : t.seq.pfStop = s.seq.pfStop

theorem Steady.refl (s : State) : Steady s s := ⟨fun _ => rfl, rfl, rfl, rfl⟩

theorem Steady.trans {s t u : State} (h : Steady s t) (k : Steady t u) : Steady s u :=
  ⟨fun a => (k.bytes a).trans (h.bytes a), k.ee.trans h.ee, k.phy.trans h.phy, k.stop.trans h.stop⟩

theorem Worked.steady {s t : State} (h : Worked s t) : Steady s t := ⟨h.bytes, h.ee, h.phy, by rw [h.seq]⟩

theorem Steady.registers {s t : State} (h : Steady s t) : SameRegisters s t := by
  unfold SameRegisters; rw [h.ee]; exact ⟨rfl, rfl, rfl⟩

/-- An abandoned set ends; a new one falls due. -/
theorem abandonSet_eq (s : State) : abandonSet s = { s with
    tiu := (abandonSet s).tiu, temp := (abandonSet s).temp, seq := { s.seq with tempDue := (abandonSet s).seq.tempDue } } := by
  unfold abandonSet; split <;> rfl

/-- The sequencer's and the lanes' part of an abandoned cycle (R244). -/
def endCycle (q : Seq) (s : State) : State :=
  { s with
    ag := { s.ag with noResult := s.ag.noResult && (q.kind != .sweep || q.sweepOn) },
    seq := { q with phase := .none, kind := .normal, acked := false, skipped := q.skipped + 1, run := q.run + 1,
                    parity := if q.phase = .before then q.parity else !q.parity, repeated := .const false, job := none, jobs := [] },
    tiu := releaseSlots s.tiu, afe := restLanes s.afe }

theorem abandonCycle_eq {s : State} (h : s.seq.phase ≠ .none) : abandonCycle s =
    withdraw (releaseSession (abandonSet (endCycle s.seq (when (s.seq.run == 0) (raise 0x0401 (arg 0)) s)))) := by
  unfold abandonCycle
  exact if_neg h

theorem abandonCycle_idle {s : State} (h : s.seq.phase = .none) : abandonCycle s = s := by
  unfold abandonCycle
  exact if_pos h

/-- A cycle that is abandoned is counted, and the sequencer rests. -/
structure CycleGone (s t : State) : Prop extends Steady s t where
  phase : t.seq.phase = .none
  job : t.seq.job = none
  sweep : t.seq.sweepOn = s.seq.sweepOn
  skipped : t.seq.skipped = s.seq.skipped + 1
  run : t.seq.run = s.seq.run + 1
  fe : t.fe = s.fe
  held : t.power.heldMgmt = s.power.heldMgmt

theorem abandonCycle_gone {s : State} (h : s.seq.phase ≠ .none) : CycleGone s (abandonCycle s) := by
  have hl : LogsOnly s (when (s.seq.run == 0) (raise 0x0401 (arg 0)) s) := by
    unfold when
    split
    · exact (raise_logs _ _ s).1
    · exact .refl s
  rw [abandonCycle_eq h]
  generalize when (s.seq.run == 0) (raise 0x0401 (arg 0)) s = t at hl ⊢
  have hw := withdraw_powerOnly (releaseSession (abandonSet (endCycle s.seq t)))
  have hc : CycleGone s (releaseSession (abandonSet (endCycle s.seq t))) := by
    rw [abandonSet_eq, hl.1]
    exact ⟨⟨fun _ => rfl, rfl, rfl, rfl⟩, rfl, rfl, rfl, rfl, rfl, rfl, rfl⟩
  generalize releaseSession (abandonSet (endCycle s.seq t)) = u at hw hc ⊢
  have hh := hw.held.trans hc.held
  rw [hw.rest]
  exact ⟨⟨hc.bytes, hc.ee, hc.phy, hc.stop⟩, hc.phase, hc.job, hc.sweep, hc.skipped, hc.run, hc.fe, hh⟩

/-- An abandoned sweep is over; phase and job stay as they are. -/
theorem abandonSweep_over (s : State) : Steady s (abandonSweep s) ∧ (abandonSweep s).seq.sweepOn = false ∧
    (abandonSweep s).seq.phase = s.seq.phase ∧ (abandonSweep s).seq.job = s.seq.job := by
  unfold abandonSweep
  have hl := (raise_logs 0x0403 (arg ((s.seq.sweeps.toNat + 1) % 65536 * 65536 + 2))
    { s with seq := { s.seq with sweepOn := false, sweepIdx := 0, sweepDue := false },
             ag := { s.ag with series := .const [], abandoned := true, noResult := false } }).1
  generalize raise 0x0403 _ _ = t at hl ⊢
  have ht : Steady s t ∧ t.seq.sweepOn = false ∧ t.seq.phase = s.seq.phase ∧ t.seq.job = s.seq.job := by
    rw [hl.1]
    exact ⟨⟨fun _ => rfl, rfl, rfl, rfl⟩, rfl, rfl, rfl⟩
  unfold when
  dsimp only
  split
  · have hw := withdraw_powerOnly t
    obtain ⟨h1, h2⟩ := ht
    refine ⟨h1.trans hw.control.worked.steady, ?_⟩
    rw [hw.rest]
    exact h2
  · exact ht

/-- What an abandoned cycle leaves, whether one ran or not. -/
theorem abandonCycle_over (s : State) : Steady s (abandonCycle s) ∧ (abandonCycle s).seq.sweepOn = s.seq.sweepOn ∧
    (abandonCycle s).seq.phase = .none := by
  by_cases h : s.seq.phase = .none
  · rw [abandonCycle_idle h]
    exact ⟨.refl s, rfl, h⟩
  · have hc := abandonCycle_gone h
    exact ⟨hc.toSteady, hc.sweep, hc.phase⟩

/-- A run of cycles that is abandoned leaves neither a cycle nor a sweep. -/
theorem abandonRun_over (s : State) : Steady s (abandonRun s) ∧ (abandonRun s).seq.sweepOn = false ∧
    (abandonRun s).seq.phase = .none := by
  obtain ⟨hc, hon, hp⟩ := abandonCycle_over s
  unfold abandonRun when
  cases h : s.inSweep with
  | true =>
    obtain ⟨hk, hoff, hph, -⟩ := abandonSweep_over (abandonCycle s)
    exact ⟨hc.trans hk, hoff, hph.trans hp⟩
  | false =>
    simp only [State.inSweep, Bool.or_eq_false_iff] at h
    exact ⟨hc, hon.trans h.1, hp⟩

/-- A sequencer that rests has no run to abandon. -/
theorem abandonRun_idle {s : State} (hp : s.seq.phase = .none) (hs : s.inSweep = false) : abandonRun s = s := by
  unfold abandonRun when
  rw [hs, abandonCycle_idle hp]
  rfl

end Sys2Proof.Machine
end

section
/-!
PROOF. The five commands of the power-fail and battery supply (R350, R351, Table 12.6), from what stands above about the save, the votes
and what is abandoned.
-/
namespace Sys2Proof.Machine

/-! ## The gap job, and what goes on after -/

theorem abandonJob_over (s : State) : Steady s (abandonJob s) ∧ (abandonJob s).seq.job = none ∧
    (abandonJob s).seq.phase = s.seq.phase ∧ (abandonJob s).seq.sweepOn = s.seq.sweepOn := by
  unfold abandonJob
  rw [abandonSet_eq]
  exact ⟨⟨fun _ => rfl, rfl, rfl, rfl⟩, rfl, rfl, rfl⟩

theorem dropJob_idle {s : State} (h : s.seq.job = none) : dropJob s = s := by
  unfold dropJob; rw [h]; rfl

theorem dropJob_over (s : State) : Steady s (dropJob s) ∧ (dropJob s).seq.job = none ∧
    (dropJob s).seq.phase = s.seq.phase ∧ (dropJob s).seq.sweepOn = s.seq.sweepOn := by
  cases hj : s.seq.job with
  | none =>
    rw [dropJob_idle hj]
    exact ⟨.refl s, hj, rfl, rfl⟩
  | some _ =>
    obtain ⟨ha, h⟩ := abandonJob_over s
    have hw := withdraw_powerOnly (abandonJob s)
    unfold dropJob
    rw [hj, Option.isSome_some, if_pos rfl]
    refine ⟨ha.trans hw.control.worked.steady, ?_⟩
    rw [hw.rest]
    exact h

/-- Where no cycle may begin, a management tick may run after what was abandoned, and no park entry. -/
theorem standDown_worked {s : State} (h : s.seq.pfStop = true) : Worked s (standDown s) := by
  have hr := (releaseVdrv_powerOnly s).control.worked.trans (takeMgmt_worked (releaseVdrv s))
  have hs : (takeMgmt (releaseVdrv s)).seq.pfStop = true := by rw [hr.seq]; exact h
  exact .ite (hr.trans (tryPark_powerOnly hs).control.worked) (.refl s)

theorem standDown_powerOnly {s : State} (h : s.seq.pfStop = true) (hm : s.power.heldMgmt = none) : PowerOnly s (standDown s) := by
  have hr := releaseVdrv_powerOnly s
  have hs : (releaseVdrv s).seq.pfStop = true := by rw [hr.rest]; exact h
  unfold standDown
  rw [takeMgmt_none (hr.held.trans hm)]
  exact .ite (hr.comp (tryPark_powerOnly hs)) (.refl s)

theorem holdRun_run {s : State} (h : s.power.trans = .none) :
    (holdRun s).power.state = .run ∧ (holdRun s).power.idleTimer = false := by
  rw [holdRun, if_pos h]; exact ⟨rfl, rfl⟩

/-! ## POWER_FAIL_WARNING -/

theorem exec_powerFailWarning {s : State} (hl : s.linkSupply = true) (hp : s.phy.powerFail = false) :
    exec .powerFailWarning s = .next (if s.cyclesRun then stopCycles s.warned else s.warned) := by
  have he : exec .powerFailWarning s = .next (if s.linkSupply && !s.phy.powerFail then
      (if s.warned.cyclesRun then stopCycles s.warned else s.warned) else s) := rfl
  rw [he, warned_cyclesRun, hl, hp]
  rfl

theorem exec_powerFailWarning_unchanged {s : State} (h : s.linkSupply = false ∨ s.phy.powerFail = true) :
    exec .powerFailWarning s = .next s := by
  have hn : (s.linkSupply && !s.phy.powerFail) = false := by
    obtain h | h := h <;> simp [h]
  exact congrArg Host.Outcome.next (if_neg (by simp [hn]))

theorem stopCycles_pair {s : State} (h : s.inPair = true) : stopCycles s = holdRun (when s.inSweep abandonSweep s) := if_pos h

theorem stopCycles_gap {s : State} (h : s.inPair = false) :
    stopCycles s = powerFailSave (holdRun (standDown (dropJob (abandonRun s)))) := by
  unfold stopCycles
  rw [h]
  rfl

/-- With no pair in flight nothing of the sequencer goes on. -/
theorem stopCycles_over {s : State} (h : s.seq.pfStop = true) : Steady s (stopCycles s) ∧
    (s.inPair = false → (stopCycles s).seq.phase = .none ∧ (stopCycles s).seq.job = none ∧ (stopCycles s).seq.sweepOn = false) := by
  cases hp : s.inPair with
  | true =>
    have hs : Steady s (when s.inSweep abandonSweep s) := by
      unfold when
      split
      · exact (abandonSweep_over s).1
      · exact .refl s
    rw [stopCycles_pair hp]
    exact ⟨hs.trans (holdRun_powerOnly _).control.worked.steady, nofun⟩
  | false =>
    obtain ⟨hr, hon, hph⟩ := abandonRun_over s
    obtain ⟨hd, hj, hph', hon'⟩ := dropJob_over (abandonRun s)
    have hk := hr.trans hd
    rw [stopCycles_gap hp]
    generalize dropJob (abandonRun s) = t at hk hj hph' hon' ⊢
    have hw := ((standDown_worked (hk.stop.trans h)).trans (holdRun_powerOnly _).control.worked).trans
      (powerFailSave_control _).worked
    refine ⟨hk.trans hw.steady, fun _ => ?_⟩
    rw [hw.seq]
    exact ⟨hph'.trans hph, hj, hon'.trans hon⟩

theorem warned_stop (s : State) : s.warned.seq.pfStop = true := by rw [(warned_warned s).seq]; rfl

theorem warned_steady (s : State) : SameMemory s s.warned ∧ SameRegisters s s.warned := by
  obtain ⟨-, -, -, -, hm, ⟨-, -, -, -, -, he⟩, -⟩ := warned_warned s
  exact ⟨hm, by unfold SameRegisters; rw [he]; exact ⟨rfl, rfl, rfl⟩⟩

/-- What the warning leaves in every device whose cycles run. -/
theorem warning_over (s : State) : (stopCycles s.warned).seq.pfStop = true ∧ (stopCycles s.warned).phy = s.warn.phy ∧
    (s.inPair = false → (stopCycles s.warned).seq.phase = .none ∧ (stopCycles s.warned).seq.job = none ∧
      (stopCycles s.warned).seq.sweepOn = false) ∧
    SameMemory s (stopCycles s.warned) ∧ SameRegisters s (stopCycles s.warned) := by
  obtain ⟨hk, ho⟩ := stopCycles_over (warned_stop s)
  obtain ⟨hm, hr⟩ := warned_steady s
  rw [warned_inPair] at ho
  refine ⟨hk.stop.trans (warned_stop s), hk.phy.trans (warned_warned s).phy, ho, fun a => (hk.bytes a).trans (hm a), ?_⟩
  obtain ⟨hp, ha, hb⟩ := hk.registers
  obtain ⟨hp', ha', hb'⟩ := hr
  exact ⟨hp.trans hp', ha.trans ha', hb.trans hb'⟩

/-- A pair in flight goes on as it is: the warning holds the device in RUN, and that is all. -/
theorem warning_pair {s : State} (hp : s.inPair = true) (hs : s.inSweep = false) : stopCycles s.warned = holdRun s.warned := by
  rw [stopCycles_pair ((warned_inPair s).trans hp), warned_inSweep, hs]
  rfl

/-- With nothing under way the warning only works on what may wait, and asks for the save. -/
theorem warning_idle {s : State} (hp : s.seq.phase = .none) (hj : s.seq.job = none) (hs : s.seq.sweepOn = false) :
    stopCycles s.warned = powerFailSave (holdRun (standDown s.warned)) := by
  have hq : s.warned.seq = { s.seq with pfStop := true } := (warned_warned s).seq
  have hpair : s.warned.inPair = false := by rw [warned_inPair]; simp [State.inPair, hp]
  have hsweep : s.warned.inSweep = false := by rw [warned_inSweep]; simp [State.inSweep, hp, hs]
  rw [stopCycles_gap hpair, abandonRun_idle (by rw [hq]; exact hp) hsweep, dropJob_idle (by rw [hq]; exact hj)]

/-- The save that follows the warning is the first thing an idle MEMC does. -/
theorem warning_busy {s t : State} (k : PowerOnly s.warned t) (hu : s.mem.usable = true) (hc : s.save.current = false)
    (hb : s.mem.busy = none) (hs : s.mem.suspended = []) (hq : s.mem.queue = []) (hv : s.eva.queue.length < 31) :
    (powerFailSave t).mem.busy = some (s.firstOf (.save true 1 (some s.snap.regs))) := by
  have hm : s.warned.mem = s.mem := raise_mem (s := s.warn) _ _ hv
  have ht : t.mem = s.mem := by rw [k.rest]; exact hm
  have hsave : t.save = s.save := by rw [k.rest]; exact raise_save _ _ s.warn
  have hsnap : t.snap = s.snap := by rw [k.rest]; exact raise_snap _ _ s.warn
  have hk : SameSlot s t := ⟨by rw [ht], by rw [hsave], by rw [hsave], by rw [hsave]⟩
  rw [powerFailSave_busy (by rw [ht]; exact hu) (by rw [hsave]; exact hc) (by rw [ht]; exact hb) (by rw [ht]; exact hs)
    (by rw [ht]; exact hq), hk.firstOf, hsnap]

theorem warning_idle_power {s t : State} (k : PowerOnly s.warned t) (h : s.power.trans = .none) :
    (powerFailSave (holdRun t)).power.state = .run ∧ (powerFailSave (holdRun t)).power.idleTimer = false := by
  obtain ⟨hr, hi⟩ := holdRun_run ((k.trans.trans (warned_power s).1).trans h)
  exact powerFailSave_run hr hi

/-! ## POWER_FAIL_CYCLE_LIMIT and POWER_FAIL_CLEAR -/

theorem exec_powerFailCycleLimit {s : State} (hs : s.seq.pfStop = true) (hp : s.seq.phase ≠ .none) :
    exec .powerFailCycleLimit s = .next (powerFailSave (standDown (abandonCycle s))) :=
  congrArg Host.Outcome.next (if_pos (by simp [hs, hp]))

theorem exec_powerFailCycleLimit_unchanged {s : State} (h : s.seq.pfStop = false ∨ s.seq.phase = .none) :
    exec .powerFailCycleLimit s = .next s :=
  congrArg Host.Outcome.next (if_neg (by obtain h | h := h <;> simp [h]))

/-- The cycle past its 2 ms is abandoned and counted. -/
theorem cycleLimit_gone {s : State} (hs : s.seq.pfStop = true) (hp : s.seq.phase ≠ .none) :
    let t := powerFailSave (standDown (abandonCycle s))
    Steady s t ∧ t.seq.phase = .none ∧ t.seq.skipped = s.seq.skipped + 1 ∧ t.seq.run = s.seq.run + 1 ∧
      (s.power.heldMgmt = none → t.fe = s.fe) := by
  have hg := abandonCycle_gone hp
  have hstop := hg.stop.trans hs
  generalize abandonCycle s = u at hg hstop ⊢
  have hw := (standDown_worked hstop).trans (powerFailSave_control _).worked
  refine ⟨hg.toSteady.trans hw.steady, ?_, ?_, ?_, fun hm => ?_⟩
  · rw [hw.seq]; exact hg.phase
  · rw [hw.seq]; exact hg.skipped
  · rw [hw.seq]; exact hg.run
  · have hc := (standDown_powerOnly hstop (hg.held.trans hm)).control.comp (powerFailSave_control _)
    rw [hc.rest]
    exact hg.fe

/-- A device with no park and no target that waits has nothing to enter. -/
theorem tryPark_idle {s : State} (hp : s.power.parked = none) (hl : s.power.latchedState = none) : tryPark s = s := by
  unfold tryPark takeLatched
  rw [hl]
  unfold parkNow
  rw [hp]

/-- The warning is over, and cycles may begin. -/
def State.cleared (s : State) : State := { s with phy := { s.phy with powerFail := false }, seq := { s.seq with pfStop := false } }

theorem exec_powerFailClear_eq {s : State} (h : s.phy.powerFail = true) :
    exec .powerFailClear s = .next (if s.cyclesRun then tryPark (retime s.cleared) else s.cleared) :=
  congrArg Host.Outcome.next (if_pos h)

theorem exec_powerFailClear_unchanged {s : State} (h : s.phy.powerFail = false) : exec .powerFailClear s = .next s :=
  congrArg Host.Outcome.next (if_neg (by simp [h]))

/-- With no park the votes set the idle timer again where no transition goes on. -/
theorem tryPark_retime {s : State} (hp : s.power.parked = none) (hl : s.power.latchedState = none) :
    tryPark (retime s) = { s with power := if s.power.trans = .none
      then { s.power with idleTimer := decide (s.power.state.toCode < s.power.target) } else s.power } := by
  unfold retime
  by_cases ht : s.power.trans = .none
  · rw [if_pos (by simp [hp, ht]), if_pos ht]
    exact tryPark_idle hp hl
  · rw [if_neg (by simp [ht]), if_neg ht]
    exact tryPark_idle hp hl

theorem exec_powerFailClear {s : State} (h : s.phy.powerFail = true)
    (hi : s.cyclesRun = false ∨ (s.power.parked = none ∧ s.power.latchedState = none)) :
    exec .powerFailClear s = .next { s with
      phy := { s.phy with powerFail := false }, seq := { s.seq with pfStop := false },
      power := if s.cyclesRun = true ∧ s.power.trans = .none
               then { s.power with idleTimer := decide (s.power.state.toCode < s.power.target) } else s.power } := by
  rw [exec_powerFailClear_eq h]
  cases hc : s.cyclesRun with
  | false => simp [State.cleared]
  | true =>
    obtain ⟨hp, hl⟩ := hi.resolve_left (by simp [hc])
    rw [if_pos rfl, tryPark_retime (s := s.cleared) hp hl]
    simp only [true_and]
    rfl

/-! ## BATTERY_LOW -/

/-- The low battery noted: one save until it is rearmed. -/
def State.low (s : State) : State := { s with save := { s.save with lowArmed := false }, ee := { s.ee with lowSave := true } }

/-- The low battery noted and logged. -/
def State.lowLogged (s : State) : State := raiseFlag flagPowerfail 0x0207 (arg 1) s.low

/-- The state after it. -/
def State.lowSaved (s : State) : State := if s.lowLogged.mem.usable then requestMem (.save true 1 none) s.lowLogged else s.lowLogged

theorem exec_batteryLow {s : State} (hc : s.cycling = true) (hl : s.linkSupply = false) (ha : s.save.lowArmed = true) :
    exec .batteryLow s = .next s.lowSaved :=
  congrArg Host.Outcome.next (if_pos (by simp [hc, hl, ha]))

theorem exec_batteryLow_unchanged {s : State} (h : s.cycling = false ∨ s.linkSupply = true ∨ s.save.lowArmed = false) :
    exec .batteryLow s = .next s :=
  congrArg Host.Outcome.next (if_neg (by obtain h | h | h := h <;> simp [h]))

theorem lowSaved_control (s : State) : ControlOnly s.lowLogged s.lowSaved := by
  unfold State.lowSaved
  split
  · exact requestMem_control _ _
  · exact .refl _

theorem lowLogged_logs (s : State) : LogsOnly s.low (raise 0x0207 (arg 1) s.low) := (raise_logs _ _ _).1

theorem lowSaved_busy {s : State} (hu : s.mem.usable = true) (hb : s.mem.busy = none) (hs : s.mem.suspended = [])
    (hq : s.mem.queue = []) (hv : s.eva.queue.length < 31) :
    s.lowSaved.mem.busy = some (s.firstOf (.save true 1 (some s.snap.regs))) := by
  have hm : s.lowLogged.mem = s.mem := raise_mem (s := s.low) _ _ hv
  have hsave : s.lowLogged.save = { s.save with lowArmed := false } := raise_save _ _ s.low
  have hsnap : s.lowLogged.snap = s.snap := raise_snap _ _ s.low
  have hk : SameSlot s s.lowLogged := ⟨by rw [hm], by rw [hsave], by rw [hsave], by rw [hsave]⟩
  rw [State.lowSaved, if_pos (by rw [hm]; exact hu), requestSave_busy (by rw [hm]; exact hb) (by rw [hm]; exact hs) (by rw [hm]; exact hq),
    hk.firstOf, hsnap]

/-! ## The five commands -/

/-- Settles O30: the warning stops what may stop and asks for the save; the other four act under their conditions only. -/
theorem powerFailStopsCycles : Obligations.PowerFailStopsCycles := by
  unfold Obligations.PowerFailStopsCycles
  intro s
  have hw := warned_warned s
  refine ⟨exec_powerFailWarning_unchanged, fun hl hp => ⟨fun hc => ?_, fun hc hpair hsweep => ?_, fun hc => ?_,
    fun hc hph hj hs hm => ?_⟩, fun hs hp => ?_, exec_powerFailCycleLimit_unchanged, exec_powerFailClear_unchanged,
    exec_powerFailClear, fun hc hl ha => ?_, exec_batteryLow_unchanged, ?_⟩
  · refine ⟨raise 0x0207 (arg 0) s.warn, ?_, raise_logs _ _ _⟩
    rw [exec_powerFailWarning hl hp, hc]
    rfl
  · have k := hw.control (holdRun_powerOnly s.warned).control
    refine ⟨holdRun s.warned, ?_, k.seq, k.phy, k.flags, k.eva, fun ht => (holdRun_run ((warned_power s).1.trans ht)).1,
      k.bytes, k.measures, k.bkd⟩
    rw [exec_powerFailWarning hl hp, hc, if_pos rfl, warning_pair hpair hsweep]
  · refine ⟨stopCycles s.warned, ?_, warning_over s⟩
    rw [exec_powerFailWarning hl hp, hc, if_pos rfl]
  · have hd := standDown_powerOnly (warned_stop s) ((warned_power s).2.trans hm)
    have k := hw.control ((hd.comp (holdRun_powerOnly _)).control.comp (powerFailSave_control _))
    refine ⟨powerFailSave (holdRun (standDown s.warned)), ?_, k.seq, k.phy, k.flags, k.eva, warning_idle_power hd,
      warning_busy (hd.comp (holdRun_powerOnly _)), k.bytes, k.measures, k.bkd⟩
    rw [exec_powerFailWarning hl hp, hc, if_pos rfl, warning_idle hph hj hs]
  · obtain ⟨hk, hph, hsk, hr, hfe⟩ := cycleLimit_gone hs hp
    exact ⟨_, exec_powerFailCycleLimit hs hp, hph, hsk, hr, hk.stop.trans hs, hk.bytes, hk.registers, hfe⟩
  · have hk := lowSaved_control s
    have hr := lowLogged_logs s
    refine ⟨s.lowSaved, exec_batteryLow hc hl ha, ?_, ?_, ?_, ?_, lowSaved_busy, ?_, ?_, ?_, ?_⟩
    · rw [hk.rest]; exact raise_save _ _ s.low
    · rw [hk.rest]; exact raise_ee _ _ s.low
    · rw [hk.rest]
      show (raise 0x0207 (arg 1) s.low).flags.set 4 ((raise 0x0207 (arg 1) s.low).flags.getD 4 ⟨false, 0, 0⟩).occur = _
      rw [raise_flags]
      rfl
    · rw [hk.rest]; exact (raise_logs 0x0207 (arg 1) s.low).2
    · exact fun a => (hk.worked.bytes a).trans (hr.sameMemory a)
    · rw [hk.rest]; exact raise_seq _ _ s.low
    · rw [hk.rest]; exact raise_phy _ _ s.low
    · rw [hk.rest]; exact raise_bkd _ _ s.low
  · cases hl : s.linkSupply <;> simp [exec, execBatteryLowRearm, hl]

end Sys2Proof.Machine
end
